-- ==== Sys2Proof/Word.lean ====
section
/-! DEFINITION. The value types of the block: bus words, positions, the travel direction, the FSM
state and the four duty values. -/

namespace Sys2Proof

/-- A bus word of 32 bits (20_memory.md R54). -/
abbrev Word := BitVec 32

/-- A 64-bit two's-complement position (10_state.md R20, R24). -/
abbrev Pos := BitVec 64

/-- A word index `w = 0..63` of the register window (10_state.md R41). -/
abbrev WordIndex := BitVec 6

/-- A value of DIR or JOG: -1, 0 or 1. The 2-bit code `0b10` is never written (10_state.md R22,
R25), so it has no constructor (log entry 10, DEDUCED, safe). -/
inductive Dir where
  | neg
  | zero
  | pos
deriving DecidableEq, Repr

/-- The eight states of the trajectory engine (10_state.md R19), in the order of their codes. -/
inductive Fsm where
  | wait
  | start
  | acc
  | dec
  | constSpeed
  | decToZero
  | standstill
  | brake
deriving DecidableEq, Repr

/-- DUTY[0..3] (10_state.md R34). -/
structure Duty where
  d0 : BitVec 16
  d1 : BitVec 16
  d2 : BitVec 16
  d3 : BitVec 16
deriving DecidableEq, Repr

end Sys2Proof
end

