-- ==== Sys2Proof/Syntax.lean ====
section
/-! DEFINITION. The 41 operations of spec/opcode_table.json, and the ports at one clock edge. -/

namespace Sys2Proof

/-- One constructor per operation of the opcode table (30_encoding.md R73, 00_scope.md R2). The
three RD_RSVD, five WR_RO and three WR_RSVD rows are one operation each, whose word index is an
operand (log entry 8). DATA of a read is a don't-care (R69) and is no operand. -/
inductive Instr where
  | rdCmd
  | rdStatus
  | rdErr
  | rdParam
  | rdRange
  | rdTicks
  | rdTargetLo
  | rdTargetHi
  | rdJogDir
  | rdMaxSpeed
  | rdMaxAccel
  | rdJumpLo
  | rdJumpHi
  | rdPosLo
  | rdPosHi
  | rdVel
  | rdAngle
  | rdFposLo
  | rdFposHi
  | rdDuty0
  | rdDuty1
  | rdDuty2
  | rdDuty3
  | rdRsvd (w : WordIndex)
  | wrErr (data : Word)
  | wrTargetLo (data : Word)
  | wrTargetHi (data : Word)
  | wrJogDir (data : Word)
  | wrMaxSpeed (data : Word)
  | wrMaxAccel (data : Word)
  | wrJumpLo (data : Word)
  | wrJumpHi (data : Word)
  | wrRo (w : WordIndex) (data : Word)
  | wrRsvd (w : WordIndex) (data : Word)
  | cmdNop
  | cmdUpdate
  | cmdBrake
  | cmdJump
  | cmdRsvd (data : Word)
  | tick
  | reset
deriving DecidableEq, Repr

/-- What the input ports of 20_memory.md R50 carry at one rising edge of CLK. -/
structure Edge where
  /-- RST -/
  rst : Bool
  /-- TICK -/
  tick : Bool
  /-- BUS_EN -/
  busEn : Bool
  /-- BUS_WE -/
  busWe : Bool
  /-- BUS_W -/
  busW : WordIndex
  /-- BUS_WDATA -/
  busWdata : Word
deriving DecidableEq, Repr

/-- An edge at which nothing is presented. -/
def Edge.idle : Edge :=
  { rst := false, tick := false, busEn := false, busWe := false, busW := 0, busWdata := 0 }

end Sys2Proof
end

