-- ==== Sys2Proof/WellFormed.lean ====
section
/-! DEFINITION. Which terms of Instr an encoding exists for (30_encoding.md R70, R73, R74). -/

namespace Sys2Proof

/-- The reserved words 11 and 24..63 (10_state.md R41, 30_encoding.md R74). -/
def isReservedWord (w : WordIndex) : Bool :=
  w.toNat == 11 || decide (24 ≤ w.toNat)

/-- The read-only words 1, 3, 4, 5 and 14..23 (10_state.md R41, 30_encoding.md R74). -/
def isReadOnlyWord (w : WordIndex) : Bool :=
  w.toNat == 1 || (decide (3 ≤ w.toNat) && decide (w.toNat ≤ 5)) ||
  (decide (14 ≤ w.toNat) && decide (w.toNat ≤ 23))

/-- A DATA value that names no command (30_encoding.md R72). -/
def isReservedCommand (data : Word) : Bool :=
  decide (3 < data.toNat)

/-- An operation is well formed when some request or strobe decodes to it: the word index of
RD_RSVD and WR_RSVD is reserved, that of WR_RO is read-only, and the code of CMD_RSVD names no
command. Every other operand takes every value (30_encoding.md R71). -/
def Instr.wf : Instr → Bool
  | .rdRsvd w => isReservedWord w
  | .wrRo w _ => isReadOnlyWord w
  | .wrRsvd w _ => isReservedWord w
  | .cmdRsvd data => isReservedCommand data
  | .rdCmd | .rdStatus | .rdErr | .rdParam | .rdRange | .rdTicks | .rdTargetLo | .rdTargetHi
  | .rdJogDir | .rdMaxSpeed | .rdMaxAccel | .rdJumpLo | .rdJumpHi | .rdPosLo | .rdPosHi | .rdVel
  | .rdAngle | .rdFposLo | .rdFposHi | .rdDuty0 | .rdDuty1 | .rdDuty2 | .rdDuty3 => true
  | .wrErr _ | .wrTargetLo _ | .wrTargetHi _ | .wrJogDir _ | .wrMaxSpeed _ | .wrMaxAccel _
  | .wrJumpLo _ | .wrJumpHi _ => true
  | .cmdNop | .cmdUpdate | .cmdBrake | .cmdJump | .tick | .reset => true

end Sys2Proof
end

