-- ==== Sys2Proof/Decode.lean ====
section
/-! DEFINITION. Decoding of a bus request and of the ports at one edge (30_encoding.md R69, R70,
R72, R73; 20_memory.md R62), and the encoder. -/

namespace Sys2Proof

/-- The 39-bit request word `Q = {WE, W, DATA}` of 30_encoding.md R69. -/
abbrev Request := BitVec 39

/-- Q from its three fields. -/
def requestOf (we : Bool) (w : WordIndex) (data : Word) : Request :=
  BitVec.ofBool we ++ w ++ data

/-- `Q[38]`. -/
def requestWe (q : Request) : Bool := q.getLsbD 38

/-- `Q[37:32]`. -/
def requestIndex (q : Request) : WordIndex := q.extractLsb' 32 6

/-- `Q[31:0]`. -/
def requestData (q : Request) : Word := q.extractLsb' 0 32

/-- READ_OP of 30_encoding.md R73. -/
def readOp (w : WordIndex) : Instr :=
  match w.toNat with
  | 0 => .rdCmd
  | 1 => .rdStatus
  | 2 => .rdErr
  | 3 => .rdParam
  | 4 => .rdRange
  | 5 => .rdTicks
  | 6 => .rdTargetLo
  | 7 => .rdTargetHi
  | 8 => .rdJogDir
  | 9 => .rdMaxSpeed
  | 10 => .rdMaxAccel
  | 12 => .rdJumpLo
  | 13 => .rdJumpHi
  | 14 => .rdPosLo
  | 15 => .rdPosHi
  | 16 => .rdVel
  | 17 => .rdAngle
  | 18 => .rdFposLo
  | 19 => .rdFposHi
  | 20 => .rdDuty0
  | 21 => .rdDuty1
  | 22 => .rdDuty2
  | 23 => .rdDuty3
  | _ => .rdRsvd w

/-- The command codes of 30_encoding.md R72: the whole 32-bit value is the code. -/
def commandOp (data : Word) : Instr :=
  match data.toNat with
  | 0 => .cmdNop
  | 1 => .cmdUpdate
  | 2 => .cmdBrake
  | 3 => .cmdJump
  | _ => .cmdRsvd data

/-- WRITE_OP of 30_encoding.md R73, with the commands at `w = 0`. -/
def writeOp (w : WordIndex) (data : Word) : Instr :=
  match w.toNat with
  | 0 => commandOp data
  | 2 => .wrErr data
  | 6 => .wrTargetLo data
  | 7 => .wrTargetHi data
  | 8 => .wrJogDir data
  | 9 => .wrMaxSpeed data
  | 10 => .wrMaxAccel data
  | 12 => .wrJumpLo data
  | 13 => .wrJumpHi data
  | _ => if isReadOnlyWord w then .wrRo w data else .wrRsvd w data

/-- Decoding of a request (30_encoding.md R70): total, every one of the 2^39 values is exactly one
operation. -/
def decodeRequest (q : Request) : Instr :=
  if requestWe q then writeOp (requestIndex q) (requestData q) else readOp (requestIndex q)

/-- The request that an edge's bus ports form (30_encoding.md R69). -/
def Edge.request (e : Edge) : Request := requestOf e.busWe e.busW e.busWdata

/-- The operations that the ports of one edge present, in the order they are performed
(20_memory.md R62): RST alone where it is 1; else the host access, then the tick request. BUS_WE,
BUS_W and BUS_WDATA are ignored when BUS_EN = 0 (R53). -/
def decodeEdge (e : Edge) : List Instr :=
  if e.rst then [.reset]
  else
    (if e.busEn then [decodeRequest e.request] else []) ++ (if e.tick then [.tick] else [])

/-- The ports of an edge that presents the request Q and no strobe. -/
def Edge.ofRequest (q : Request) : Edge :=
  { rst := false, tick := false, busEn := true, busWe := requestWe q
    busW := requestIndex q, busWdata := requestData q }

/-- An edge with TICK = 1 and no bus request. -/
def Edge.ofTick : Edge := { Edge.idle with tick := true }

/-- An edge with RST = 1 and nothing else. -/
def Edge.ofReset : Edge := { Edge.idle with rst := true }

/-- The request of a BUS operation (30_encoding.md R72, R73); the don't-care DATA of a read is
written 0. TICK and RESET are PORT operations and have no request. -/
def encodeRequest : Instr → Option Request
  | .rdCmd => some (requestOf false 0 0)
  | .rdStatus => some (requestOf false 1 0)
  | .rdErr => some (requestOf false 2 0)
  | .rdParam => some (requestOf false 3 0)
  | .rdRange => some (requestOf false 4 0)
  | .rdTicks => some (requestOf false 5 0)
  | .rdTargetLo => some (requestOf false 6 0)
  | .rdTargetHi => some (requestOf false 7 0)
  | .rdJogDir => some (requestOf false 8 0)
  | .rdMaxSpeed => some (requestOf false 9 0)
  | .rdMaxAccel => some (requestOf false 10 0)
  | .rdJumpLo => some (requestOf false 12 0)
  | .rdJumpHi => some (requestOf false 13 0)
  | .rdPosLo => some (requestOf false 14 0)
  | .rdPosHi => some (requestOf false 15 0)
  | .rdVel => some (requestOf false 16 0)
  | .rdAngle => some (requestOf false 17 0)
  | .rdFposLo => some (requestOf false 18 0)
  | .rdFposHi => some (requestOf false 19 0)
  | .rdDuty0 => some (requestOf false 20 0)
  | .rdDuty1 => some (requestOf false 21 0)
  | .rdDuty2 => some (requestOf false 22 0)
  | .rdDuty3 => some (requestOf false 23 0)
  | .rdRsvd w => some (requestOf false w 0)
  | .wrErr data => some (requestOf true 2 data)
  | .wrTargetLo data => some (requestOf true 6 data)
  | .wrTargetHi data => some (requestOf true 7 data)
  | .wrJogDir data => some (requestOf true 8 data)
  | .wrMaxSpeed data => some (requestOf true 9 data)
  | .wrMaxAccel data => some (requestOf true 10 data)
  | .wrJumpLo data => some (requestOf true 12 data)
  | .wrJumpHi data => some (requestOf true 13 data)
  | .wrRo w data => some (requestOf true w data)
  | .wrRsvd w data => some (requestOf true w data)
  | .cmdNop => some (requestOf true 0 0)
  | .cmdUpdate => some (requestOf true 0 1)
  | .cmdBrake => some (requestOf true 0 2)
  | .cmdJump => some (requestOf true 0 3)
  | .cmdRsvd data => some (requestOf true 0 data)
  | .tick => none
  | .reset => none

/-- The ports of an edge that presents one operation. -/
def encode (i : Instr) : Edge :=
  match encodeRequest i with
  | some q => Edge.ofRequest q
  | none =>
    match i with
    | .reset => Edge.ofReset
    | _ => Edge.ofTick

/-- Why a table word is no operation. -/
inductive DecodeRefusal where
  /-- Bits are set that no port carries: safe, no edge can present them. -/
  | notPresentable
  /-- No strobe is set: safe, nothing is presented. -/
  | noOperation
deriving DecidableEq, Repr

/-- The edge that stands for a word of the opcode table. A row of at most 8 bits is a strobe word:
bit 0 is TICK and bit 1 is RST (DESIGN CHOICE, log entry 7: the table gives TICK and RESET the same
1-bit pattern on two ports). The strobe word 3 is the edge with both strobes, at which RESET alone is
performed (20_memory.md R62); the word 0 has no strobe and is refused, and so is a word above 3, whose
further bits are no strobe (the same DESIGN CHOICE). A longer row is a request Q (30_encoding.md
R69). -/
def edgeOfTableWord (nbits w : Nat) : Except DecodeRefusal Edge :=
  if nbits ≤ 8 then
    if w = 0 then .error .noOperation
    else if w < 4 then .ok { Edge.idle with tick := w.testBit 0, rst := w.testBit 1 }
    else .error .notPresentable
  else if w < 2 ^ 39 then .ok (Edge.ofRequest (BitVec.ofNat 39 w))
  else .error .notPresentable

/-- The one operation of a table word, or the name of what is wrong with it. -/
def decodeWord (nbits w : Nat) : Except DecodeRefusal Instr :=
  match edgeOfTableWord nbits w with
  | .error r => .error r
  | .ok e =>
    match decodeEdge e with
    | i :: _ => .ok i
    | [] => .error .noOperation

/-- The instruction the decoder reads from a word of the opcode table. -/
def decodeTableWord (nbits w : Nat) : Option Instr :=
  match decodeWord nbits w with
  | .ok i => some i
  | .error _ => none

end Sys2Proof
end

