-- ==== Sys2Proof/Machine/Arith.lean ====
section
/-! DEFINITION. The arithmetic primitives of 00_scope.md R10, R11 and R14, over exact integers
(R8), and the reading of a direction as a number. -/

namespace Sys2Proof.Machine

/-- `wrap64(x)` = `sext_64(x mod 2^64)` (00_scope.md R10), as the 64-bit code it is stored as. -/
def wrap64 (x : Int) : Pos := BitVec.ofInt 64 x

/-- `s64({hi, lo})` (00_scope.md R10), as the 64-bit code it is stored as. -/
def s64 (hi lo : Word) : Pos := hi ++ lo

/-- `v[31:0]` of a 64-bit value. -/
def lo32 (v : BitVec 64) : Word := v.extractLsb' 0 32

/-- `v[63:32]` of a 64-bit value. -/
def hi32 (v : BitVec 64) : Word := v.extractLsb' 32 32

/-- `fdiv(a, b)`: floor of a / b (00_scope.md R11). -/
def fdiv (a b : Int) : Int := Int.fdiv a b

/-- `tdiv(a, b)`: a / b truncated toward zero (00_scope.md R11). -/
def tdiv (a b : Int) : Int := Int.tdiv a b

/-- `asr(x, n)` = floor(x / 2^n), the arithmetic right shift (00_scope.md R11). -/
def asr (x : Int) (n : Nat) : Int := Int.fdiv x (2 ^ n)

/-- The value of a DIR or JOG (10_state.md R22). -/
def dirInt : Dir → Int
  | .neg => -1
  | .zero => 0
  | .pos => 1

/-- `sign(x)` (00_scope.md R11), as a direction. -/
def signDir (x : Int) : Dir :=
  if 0 < x then .pos else if x < 0 then .neg else .zero

/-- `-d` for a direction. -/
def flipDir : Dir → Dir
  | .neg => .pos
  | .zero => .zero
  | .pos => .neg

/-- `brake_acc(vd, r) = fdiv(vd*vd, 2*r) + 1`, defined for vd > 0 and r > 0 (00_scope.md R14,
40_engine_fsm.md R81). -/
def brakeAcc (vd r : Int) : Int := fdiv (vd * vd) (2 * r) + 1

end Sys2Proof.Machine
end

