-- ==== Sys2Proof/Config.lean ====
section
/-! DEFINITION. The parameters of 00_scope.md R6, and the one free value. -/

namespace Sys2Proof

/-- An IEEE-754 binary64 value: `(-1)^neg * m * 2^e` where finite (log entry 16, PRESUMED: the format
is not in the spec's source, 93_implementation_defined.md G5). CYCLE_TIME and the host's conversions
are such values (42_host_operations.md R153, R154); the block holds none. -/
inductive Double where
  | nan
  | inf (neg : Bool)
  | fin (neg : Bool) (m : Nat) (e : Int)
deriving DecidableEq, Repr

/-- Is it a real number above 0? -/
def Double.isPositiveReal : Double → Bool
  | .fin neg m _ => !neg && m != 0
  | .inf _ => false
  | .nan => false

/-- The parameters of 00_scope.md R6 (93_implementation_defined.md I12). A State carries them, so a
claim about every State is a claim about every value of them; no operation writes them (10_state.md
R40). The last three are the platform's: no rule of the block reads them, the host's conversions,
addresses and instances do (log entry 12). -/
structure Config where
  /-- LOG2_L, 0..8 -/
  log2L : Nat
  /-- P, log2 of POSITION_SCALE, 2..32 -/
  p : Nat
  /-- LUT_BITS, 2..P -/
  lutBits : Nat
  /-- RANGE, 2..65536 -/
  range : Nat
  /-- STEP_CLOCKS, at least 1 -/
  stepClocks : Nat
  /-- CYCLE_TIME, the seconds between two ticks, a real number above 0 -/
  cycleTime : Double
  /-- NUM_AXES, the number of instances in the system, at least 1 -/
  numAxes : Nat
  /-- WINDOW_BASE, the base address of this instance's register window; the platform's choice -/
  windowBase : Nat
deriving DecidableEq, Repr

/-- The legal values of 00_scope.md R6. -/
def Config.wf (c : Config) : Bool :=
  decide (c.log2L ≤ 8) && decide (2 ≤ c.p) && decide (c.p ≤ 32) &&
  decide (2 ≤ c.lutBits) && decide (c.lutBits ≤ c.p) &&
  decide (2 ≤ c.range) && decide (c.range ≤ 65536) && decide (1 ≤ c.stepClocks) &&
  c.cycleTime.isPositiveReal && decide (1 ≤ c.numAxes)

/-- L, the filter length (00_scope.md R6). -/
def Config.len (c : Config) : Nat := 2 ^ c.log2L

/-- POSITION_SCALE, the counts of one electrical revolution (00_scope.md R7). -/
def Config.positionScale (c : Config) : Nat := 2 ^ c.p

/-- CAP, the re-dispatch iteration cap (00_scope.md R6, 40_engine_fsm.md R79). -/
def Config.cap : Nat := 4

/-- The parameters of State.reset. LOG2_L = 4, LUT_BITS = P and STEP_CLOCKS = 1 are the spec's
defaults (00_scope.md R6). P = 12, RANGE = 1024 and CYCLE_TIME = 5e-5 (the nearest binary64 value)
are the spec's test configuration (92_eei_decisions.md D38); NUM_AXES = 1 and WINDOW_BASE = 0: the
spec leaves these five open. DESIGN CHOICE, unsafe, log entry 2. -/
def Config.test : Config :=
  { log2L := 4, p := 12, lutBits := 12, range := 1024, stepClocks := 1
    cycleTime := .fin false 0x1A36E2EB1C432D (-67), numAxes := 1, windowBase := 0 }

/-- What BUS_RDATA shows after an edge that presents no read: 20_memory.md R53 drives it only after
a read, and states no other value. A free value, log entry 3, safe: the argument counts the free
values drawn so far. -/
opaque Config.freeRdata : Nat → BitVec 32

end Sys2Proof
end

