-- ==== Sys2Proof/Machine/State.lean ====
section
/-! DEFINITION. Everything the block holds (10_state.md), what a step can stop with, and the state
right after reset. -/

namespace Sys2Proof.Machine

/-- The state of one instance of the block. -/
structure State where
  /-- the build parameters (10_state.md R40, R47, R48); no operation writes them -/
  cfg : Config
  /-- FSM (R19) -/
  fsm : Fsm
  /-- POS (R20) -/
  pos : Pos
  /-- VEL (R21) -/
  vel : BitVec 32
  /-- DIR (R22) -/
  dir : Dir
  /-- MOVING (R23) -/
  moving : Bool
  /-- TARGET (R24) -/
  target : Pos
  /-- JOG (R25) -/
  jog : Dir
  /-- MAX_SPEED (R26) -/
  maxSpeed : BitVec 31
  /-- MAX_ACCEL (R27) -/
  maxAccel : BitVec 31
  /-- BUF (R29) -/
  buf : List Pos
  /-- SUM (R30), an exact integer (log entry 9) -/
  sum : Int
  /-- WIDX (R31) -/
  widx : Nat
  /-- FCOUNT (R32) -/
  fcount : Nat
  /-- DUTY[0..3] (R34) -/
  duty : Duty
  /-- TLO_HOLD (R35) -/
  tloHold : Word
  /-- TARGET_HI_LATCH (R35) -/
  targetHiLatch : Word
  /-- POS_HI_LATCH (R35) -/
  posHiLatch : Word
  /-- FPOS_HI_LATCH (R35) -/
  fposHiLatch : Word
  /-- JUMP_ARG (R35) -/
  jumpArg : BitVec 64
  /-- ERR (R36, R44): bit 0 POS_OVF, 1 CMD_REJ, 2 CFG_REJ, 3 CAP, 4 TICK_LOST -/
  err : BitVec 5
  /-- SP_DIRTY (R37) -/
  spDirty : Bool
  /-- TICKS (R38) -/
  ticks : BitVec 32
  /-- BUSY (R39): the flag is `busyLeft ≠ 0`, the number of edges it still holds (log entry 5) -/
  busyLeft : Nat
  /-- the output port BUS_RDATA (20_memory.md R50, R53) -/
  busRdata : Word
  /-- the model's own: what the ports carry at the coming edges, first edge first (log entry 1) -/
  inputs : List Edge
  /-- the model's own: how many free values were drawn (log entry 3) -/
  freeCount : Nat
deriving DecidableEq, Repr

/-- Why a step stops with a fault. -/
inductive Fault where
  /-- A tick whose BRAKE handler would divide by MAX_ACCEL = 0, which 10_state.md R27 calls an
  undefined division. Raised by TICK; no reachable state meets it (R28, 40_engine_fsm.md R95).
  Safe: the model stops where the spec gives no value (log entry 6). -/
  | divisionByZero
deriving DecidableEq, Repr

/-- Why a step is refused. -/
inductive Refusal where
  /-- The operation has no meaning in the model yet. Raised by an arm of exec alone; no arm does.
  Safe. -/
  | notModelled (mnemonic : String)
deriving DecidableEq, Repr

/-- The state right after RESET of a build `c` (10_state.md R49, 70_reset_and_hazards.md R178).
BUS_RDATA has no reset value in the spec: 0 (DESIGN CHOICE, unsafe, log entry 4). Nothing is
presented at any edge yet (log entry 1). -/
def State.resetOf (c : Config) : State :=
  { cfg := c
    fsm := .wait, pos := 0, vel := 0, dir := .zero, moving := false
    target := 0, jog := .zero, maxSpeed := 0, maxAccel := 1
    buf := List.replicate c.len 0, sum := 0, widx := 0, fcount := 0
    duty := { d0 := 0, d1 := 0, d2 := 0, d3 := 0 }
    tloHold := 0, targetHiLatch := 0, posHiLatch := 0, fposHiLatch := 0, jumpArg := 0
    err := 0, spDirty := false, ticks := 0, busyLeft := 0
    busRdata := 0, inputs := [], freeCount := 0 }

/-- The machine right after reset, built with `Config.test` (log entry 2). -/
def State.reset : State := State.resetOf Config.test

end Sys2Proof.Machine
end

