-- ==== Sys2Proof/Machine/Flags.lean ====
section
/-! DEFINITION. The ERR bits (10_state.md R44, 60_exceptions.md R161) and the fields of STATUS,
PARAM and RANGE (10_state.md R43, R47, R48). -/

namespace Sys2Proof.Machine

/-- The five sticky error bits (60_exceptions.md R161). -/
inductive ErrBit where
  | posOvf
  | cmdRej
  | cfgRej
  | cap
  | tickLost
deriving DecidableEq, Repr

/-- The bit number of an error, its cause code (60_exceptions.md R161). -/
def errIndex : ErrBit → Nat
  | .posOvf => 0
  | .cmdRej => 1
  | .cfgRej => 2
  | .cap => 3
  | .tickLost => 4

/-- The ERR word with one bit set. -/
def errMask : ErrBit → BitVec 5
  | .posOvf => 0b00001
  | .cmdRej => 0b00010
  | .cfgRej => 0b00100
  | .cap => 0b01000
  | .tickLost => 0b10000

/-- `e` set in an ERR value if `b` (a sticky bit: what is set stays set). -/
def errSetIf (b : Bool) (e : ErrBit) (err : BitVec 5) : BitVec 5 :=
  if b then err ||| errMask e else err

/-- Is `e` set in the state's ERR? -/
def State.hasErr (s : State) (e : ErrBit) : Bool := s.err.getLsbD (errIndex e)

/-- Write 1 to clear (10_state.md R44): bits 0..4 whose data bit is 1 are cleared, data bits 31..5
are ignored. -/
def errClear (data : Word) (err : BitVec 5) : BitVec 5 :=
  err &&& ~~~(data.extractLsb' 0 5)

/-- The code of an FSM state (10_state.md R19). -/
def fsmCode : Fsm → BitVec 3
  | .wait => 0
  | .start => 1
  | .acc => 2
  | .dec => 3
  | .constSpeed => 4
  | .decToZero => 5
  | .standstill => 6
  | .brake => 7

/-- The 2-bit two's-complement code of DIR and JOG (10_state.md R22). -/
def dirCode : Dir → BitVec 2
  | .zero => 0b00
  | .pos => 0b01
  | .neg => 0b11

/-- `SETTLING = (FCOUNT ≠ 0)` (10_state.md R32, R43). -/
def State.settling (s : State) : Bool := s.fcount != 0

/-- The STATUS word, field by field from bit 31 down (10_state.md R43). -/
def State.statusWord (s : State) : Word :=
  (0 : BitVec 7) ++ BitVec.ofNat 9 s.fcount ++ (0 : BitVec 5) ++ BitVec.ofBool s.spDirty ++
  BitVec.ofBool s.settling ++ BitVec.ofBool s.moving ++ (0 : BitVec 2) ++ dirCode s.dir ++
  (0 : BitVec 1) ++ fsmCode s.fsm

/-- The ERR word, `zext_32` of the five bits (42_host_operations.md R116). -/
def State.errWord (s : State) : Word := s.err.setWidth 32

/-- PARAM.VERSION (10_state.md R47). -/
def version : BitVec 8 := 1

/-- The PARAM word, field by field from bit 31 down (10_state.md R47). -/
def paramWord (c : Config) : Word :=
  version ++ (0 : BitVec 2) ++ BitVec.ofNat 6 c.lutBits ++ (0 : BitVec 2) ++ BitVec.ofNat 6 c.p ++
  (0 : BitVec 4) ++ BitVec.ofNat 4 c.log2L

/-- The RANGE word: [16:0] RANGE, [31:17] 0 (10_state.md R48). -/
def rangeWord (c : Config) : Word := (BitVec.ofNat 17 c.range).setWidth 32

end Sys2Proof.Machine
end

