-- ==== Sys2Proof/Machine/Lut.lean ====
section
/-! DEFINITION. The sine LUT (41_filter_commutator.md R108, R109), decided exactly.

An entry is `floor(y + 1/2)` with `y = (1/2 + sin/2) * (RANGE - 1)`, so it is at least `n` (for
`n > 0`) exactly when the sine is at least `(2n - RANGE) / (RANGE - 1)`. The sine is a cosine of a
dyadic multiple of π, and a cosine of such an angle is compared with a rational number exactly by
doubling the angle: `cos 2θ = 2 cos² θ - 1` (log entry 15, DEDUCED). -/

namespace Sys2Proof.Machine

/-- The order of two integers. -/
def orderInt (a b : Int) : Ordering :=
  if a < b then .lt else if a = b then .eq else .gt

/-- How `cos(π j / 2^m)` stands to `p / q`, for `0 ≤ j ≤ 2^m` and `q > 0`. Where the two have the
same sign their squares are compared through the doubled angle. -/
def compareCos : Nat → Nat → Int → Int → Ordering
  | 0, j, p, q => if j = 0 then orderInt q p else orderInt (-q) p
  | m + 1, j, p, q =>
    if j = 2 ^ m then orderInt 0 p
    else if j < 2 ^ m then
      if p ≤ 0 then .gt else compareCos m j (2 * p * p - q * q) (q * q)
    else
      if 0 ≤ p then .lt
      else (compareCos m (2 ^ (m + 1) - j) (2 * p * p - q * q) (q * q)).swap

/-- The greatest `n < 2^bits` reached by setting bits from the top while `ok` allows it. -/
def greatest (ok : Nat → Bool) : Nat → Nat → Nat
  | 0, n => n
  | i + 1, n => greatest ok i (if ok (n + 2 ^ i) then n + 2 ^ i else n)

/-- Is the entry for the value `cos(π j / 2^m)` at least `n`, for `n > 0`? -/
def entryAtLeast (range m j n : Nat) : Bool :=
  decide (n < range) && (compareCos m j (2 * (n : Int) - range) ((range : Int) - 1)) != .lt

/-- `floor((1/2 + v/2) * (RANGE - 1) + 1/2)` for `v = cos(π j / 2^m)`. An entry is at most 65535. -/
def lutEntry (range m j : Nat) : Nat :=
  greatest (entryAtLeast range m j) 16 0

/-- `N = 2^LUT_BITS` (R108). -/
def lutSize (c : Config) : Nat := 2 ^ c.lutBits

/-- The `j ≤ N/2` with `sin(2πk/N) = cos(π j / (N/2))`, for `k < N`: the distance of `k` from the
quarter turn, around the circle. -/
def sineAngle (n k : Nat) : Nat :=
  let a := if k < n / 4 then n / 4 - k else k - n / 4
  if a ≤ n / 2 then a else n - a

/-- `S[k]` of R109, for +sin. -/
def lutS (c : Config) (k : Nat) : Nat :=
  lutEntry c.range (c.lutBits - 1) (sineAngle (lutSize c) k)

/-- `T[k]` of R109, for -sin: `-cos(x) = cos(π - x)`. -/
def lutT (c : Config) (k : Nat) : Nat :=
  lutEntry c.range (c.lutBits - 1) (lutSize c / 2 - sineAngle (lutSize c) k)

/-- `k = ANGLE >> (P - LUT_BITS)` (R108). -/
def lutIndex (c : Config) (angle : Nat) : Nat := angle / 2 ^ (c.p - c.lutBits)

/-- `kc = (k + N/4) mod N` (R108). -/
def lutCosIndex (c : Config) (angle : Nat) : Nat :=
  (lutIndex c angle + lutSize c / 4) % lutSize c

/-- `commutate(ANGLE)` (41_filter_commutator.md R110). -/
def commutate (c : Config) (angle : Nat) : Duty :=
  { d0 := BitVec.ofNat 16 (lutS c (lutIndex c angle))
    d1 := BitVec.ofNat 16 (lutT c (lutIndex c angle))
    d2 := BitVec.ofNat 16 (lutS c (lutCosIndex c angle))
    d3 := BitVec.ofNat 16 (lutT c (lutCosIndex c angle)) }

end Sys2Proof.Machine
end

