-- ==== Sys2Proof/Machine/Operands.lean ====
section
/-! DEFINITION. How each write reads its DATA (30_encoding.md R71): the legal values, or none. -/

namespace Sys2Proof.Machine

/-- DATA of WR_JOG_DIR: `sext_32(DATA)` is -1, 0 or 1, or the value is illegal. -/
def jogOperand (data : Word) : Option Dir :=
  if data.toInt = 0 then some .zero
  else if data.toInt = 1 then some .pos
  else if data.toInt = -1 then some .neg
  else none

/-- DATA of WR_MAX_SPEED: 0 .. 2^31-1, or the value is illegal. -/
def maxSpeedOperand (data : Word) : Option (BitVec 31) :=
  if data.getLsbD 31 then none else some (data.extractLsb' 0 31)

/-- DATA of WR_MAX_ACCEL: 1 .. 2^31-1, or the value is illegal. -/
def maxAccelOperand (data : Word) : Option (BitVec 31) :=
  if data = 0 || data.getLsbD 31 then none else some (data.extractLsb' 0 31)

/-- `sext_32(JOG)` (10_state.md R46). -/
def jogWord (d : Dir) : Word := BitVec.ofInt 32 (dirInt d)

end Sys2Proof.Machine
end

