-- ==== Sys2Proof/Machine/Ops.lean ====
section
/-! DEFINITION. The shared operations over the state: the read data, raising an error, a setpoint
write, the derived positions, and the register window as a whole. -/

namespace Sys2Proof.Machine

/-- `rdata <- v`: BUS_RDATA carries the value read (20_memory.md R53). -/
def State.drive (s : State) (v : Word) : State := { s with busRdata := v }

/-- `raise ERR_X` (00_scope.md R12): sets one sticky bit and has no other effect. The block has no
traps (60_exceptions.md R167): this is all that an error does. -/
def State.raise (s : State) (e : ErrBit) : State := { s with err := s.err ||| errMask e }

/-- `note_setpoint()` (42_host_operations.md R113): SP_DIRTY is set where FSM is not WAIT. -/
def State.noteSetpoint (s : State) : State :=
  { s with spDirty := s.spDirty || s.fsm != .wait }

/-- FPOS = `asr(SUM, LOG2_L)` (41_filter_commutator.md R105). -/
def State.fpos (s : State) : Int := asr s.sum s.cfg.log2L

/-- FPOS as the 64-bit value the host reads; it fits (10_state.md R33). -/
def State.fposBits (s : State) : Pos := BitVec.ofInt 64 s.fpos

/-- ANGLE = `FPOS mod 2^P` (41_filter_commutator.md R107). -/
def State.angle (s : State) : Nat := (s.fpos % (2 ^ s.cfg.p : Nat)).toNat

/-- ANGLE as the host reads it, `zext_32` (42_host_operations.md R130). -/
def State.angleWord (s : State) : Word := BitVec.ofNat 32 s.angle

/-- `zext_32` of a 16-bit duty value (42_host_operations.md R133 to R136). -/
def dutyWord (d : BitVec 16) : Word := d.setWidth 32

/-- The 31-bit limits read with bit 31 as 0 (42_host_operations.md R123, R124). -/
def limitWord (v : BitVec 31) : Word := v.setWidth 32

/-- The register window (10_state.md R41): what a read of word `w` returns in this state. Reading a
`_LO` word also loads a latch; that is the read operation's, not the window's. -/
def State.window (s : State) (w : WordIndex) : Word :=
  match w.toNat with
  | 1 => s.statusWord
  | 2 => s.errWord
  | 3 => paramWord s.cfg
  | 4 => rangeWord s.cfg
  | 5 => s.ticks
  | 6 => lo32 s.target
  | 7 => s.targetHiLatch
  | 8 => jogWord s.jog
  | 9 => limitWord s.maxSpeed
  | 10 => limitWord s.maxAccel
  | 12 => lo32 s.jumpArg
  | 13 => hi32 s.jumpArg
  | 14 => lo32 s.pos
  | 15 => s.posHiLatch
  | 16 => s.vel
  | 17 => s.angleWord
  | 18 => lo32 s.fposBits
  | 19 => s.fposHiLatch
  | 20 => dutyWord s.duty.d0
  | 21 => dutyWord s.duty.d1
  | 22 => dutyWord s.duty.d2
  | 23 => dutyWord s.duty.d3
  | _ => 0

/-- The byte at offset `4w + i` of the window, for a byte-addressed host: bits `8i+7 : 8i` of word
`w` (20_memory.md R55, little-endian). -/
def State.windowByte (s : State) (off : BitVec 8) : BitVec 8 :=
  (s.window (off.extractLsb' 2 6)).extractLsb' (8 * (off.extractLsb' 0 2).toNat) 8

end Sys2Proof.Machine
end

