-- ==== Sys2Proof/Machine/Filter.lean ====
section
/-! DEFINITION. The phases of a tick around the engine: countdown, filter push, duty latch, the
dirty flag and the tick counter (40_engine_fsm.md R78, 41_filter_commutator.md). -/

namespace Sys2Proof.Machine

/-- Phase 1, the countdown (41_filter_commutator.md R101). -/
def State.countdown (s : State) : State :=
  { s with fcount := if s.moving = false ∧ 0 < s.fcount then s.fcount - 1 else s.fcount }

/-- `BUF[WIDX]`. -/
def State.bufAt (s : State) : Pos := s.buf.getD s.widx 0

/-- Phase 3, `push(POS)` (41_filter_commutator.md R103). -/
def State.push (s : State) : State :=
  { s with
    sum := s.sum + s.pos.toInt - s.bufAt.toInt
    buf := s.buf.set s.widx s.pos
    widx := (s.widx + 1) % s.cfg.len }

/-- Phase 4, the duty latch (41_filter_commutator.md R111). -/
def State.latchDuty (s : State) : State := { s with duty := commutate s.cfg s.angle }

/-- Phase 5 (40_engine_fsm.md R78): a tick that ends in WAIT clears SP_DIRTY. -/
def State.clearDirtyAtRest (s : State) : State :=
  { s with spDirty := s.spDirty && s.fsm != .wait }

/-- Phase 6 (40_engine_fsm.md R78): TICKS modulo 2^32. -/
def State.countTick (s : State) : State := { s with ticks := s.ticks + 1 }

/-- Every entry of BUF holds `x` and SUM = L·x, WIDX = 0 (42_host_operations.md R151). -/
def State.flushFilter (s : State) (x : Pos) : State :=
  { s with
    buf := List.replicate s.cfg.len x
    sum := (s.cfg.len : Int) * x.toInt
    widx := 0 }

end Sys2Proof.Machine
end

