-- ==== Sys2Proof/Machine/Commands.lean ====
section
/-! DEFINITION. The commands (42_host_operations.md R148 to R152). A refused command sets
ERR_CMD_REJ and changes nothing else (60_exceptions.md R163). -/

namespace Sys2Proof.Machine

/-- CMD_NOP (R148). -/
def execCmdNop (s : State) : Host.Outcome State Fault Refusal := .next s

/-- CMD_UPDATE (R149): nothing in WAIT, refused in BRAKE, else the engine re-plans from START. -/
def execCmdUpdate (s : State) : Host.Outcome State Fault Refusal :=
  match s.fsm with
  | .wait => .next s
  | .brake => .next (s.raise .cmdRej)
  | .start | .acc | .dec | .constSpeed | .decToZero | .standstill =>
    .next { s with fsm := .start, spDirty := false }

/-- CMD_BRAKE (R150): accepted in the four moving states alone. -/
def execCmdBrake (s : State) : Host.Outcome State Fault Refusal :=
  match s.fsm with
  | .acc | .dec | .constSpeed | .decToZero => .next { s with fsm := .brake }
  | .wait | .start | .standstill | .brake => .next (s.raise .cmdRej)

/-- The effect of an accepted JUMP (R151). -/
def State.jumpTo (s : State) (x : Pos) : State :=
  State.flushFilter
    { s with
      pos := x, target := x, vel := 0, dir := .zero, moving := false, fcount := 0
      spDirty := false } x

/-- CMD_JUMP (R151): accepted in WAIT alone, with the argument JUMP_ARG. -/
def execCmdJump (s : State) : Host.Outcome State Fault Refusal :=
  match s.fsm with
  | .wait => .next (s.jumpTo (s64 (hi32 s.jumpArg) (lo32 s.jumpArg)))
  | .start | .acc | .dec | .constSpeed | .decToZero | .standstill | .brake =>
    .next (s.raise .cmdRej)

/-- CMD_RSVD (R152): a reserved code is refused. -/
def execCmdRsvd (_data : Word) (s : State) : Host.Outcome State Fault Refusal :=
  .next (s.raise .cmdRej)

end Sys2Proof.Machine
end

