-- ==== Sys2Proof/Machine/Reads.lean ====
section
/-! DEFINITION. The 24 register reads (42_host_operations.md R114 to R137). A read writes BUS_RDATA;
a `_LO` read also loads the matching latch with the high half of the same instant. -/

namespace Sys2Proof.Machine

/-- RD_CMD (R114). -/
def execRdCmd (s : State) : Host.Outcome State Fault Refusal :=
  .next (s.drive 0)

/-- RD_STATUS (R115). -/
def execRdStatus (s : State) : Host.Outcome State Fault Refusal :=
  .next (s.drive s.statusWord)

/-- RD_ERR (R116). -/
def execRdErr (s : State) : Host.Outcome State Fault Refusal :=
  .next (s.drive s.errWord)

/-- RD_PARAM (R117). -/
def execRdParam (s : State) : Host.Outcome State Fault Refusal :=
  .next (s.drive (paramWord s.cfg))

/-- RD_RANGE (R118). -/
def execRdRange (s : State) : Host.Outcome State Fault Refusal :=
  .next (s.drive (rangeWord s.cfg))

/-- RD_TICKS (R119). -/
def execRdTicks (s : State) : Host.Outcome State Fault Refusal :=
  .next (s.drive s.ticks)

/-- RD_TARGET_LO (R120). -/
def execRdTargetLo (s : State) : Host.Outcome State Fault Refusal :=
  .next { s.drive (lo32 s.target) with targetHiLatch := hi32 s.target }

/-- RD_TARGET_HI (R121). -/
def execRdTargetHi (s : State) : Host.Outcome State Fault Refusal :=
  .next (s.drive s.targetHiLatch)

/-- RD_JOG_DIR (R122). -/
def execRdJogDir (s : State) : Host.Outcome State Fault Refusal :=
  .next (s.drive (jogWord s.jog))

/-- RD_MAX_SPEED (R123). -/
def execRdMaxSpeed (s : State) : Host.Outcome State Fault Refusal :=
  .next (s.drive (limitWord s.maxSpeed))

/-- RD_MAX_ACCEL (R124). -/
def execRdMaxAccel (s : State) : Host.Outcome State Fault Refusal :=
  .next (s.drive (limitWord s.maxAccel))

/-- RD_JUMP_LO (R125). -/
def execRdJumpLo (s : State) : Host.Outcome State Fault Refusal :=
  .next (s.drive (lo32 s.jumpArg))

/-- RD_JUMP_HI (R126). -/
def execRdJumpHi (s : State) : Host.Outcome State Fault Refusal :=
  .next (s.drive (hi32 s.jumpArg))

/-- RD_POS_LO (R127). -/
def execRdPosLo (s : State) : Host.Outcome State Fault Refusal :=
  .next { s.drive (lo32 s.pos) with posHiLatch := hi32 s.pos }

/-- RD_POS_HI (R128). -/
def execRdPosHi (s : State) : Host.Outcome State Fault Refusal :=
  .next (s.drive s.posHiLatch)

/-- RD_VEL (R129). -/
def execRdVel (s : State) : Host.Outcome State Fault Refusal :=
  .next (s.drive s.vel)

/-- RD_ANGLE (R130). -/
def execRdAngle (s : State) : Host.Outcome State Fault Refusal :=
  .next (s.drive s.angleWord)

/-- RD_FPOS_LO (R131). -/
def execRdFposLo (s : State) : Host.Outcome State Fault Refusal :=
  .next { s.drive (lo32 s.fposBits) with fposHiLatch := hi32 s.fposBits }

/-- RD_FPOS_HI (R132). -/
def execRdFposHi (s : State) : Host.Outcome State Fault Refusal :=
  .next (s.drive s.fposHiLatch)

/-- RD_DUTY0 (R133). -/
def execRdDuty0 (s : State) : Host.Outcome State Fault Refusal :=
  .next (s.drive (dutyWord s.duty.d0))

/-- RD_DUTY1 (R134). -/
def execRdDuty1 (s : State) : Host.Outcome State Fault Refusal :=
  .next (s.drive (dutyWord s.duty.d1))

/-- RD_DUTY2 (R135). -/
def execRdDuty2 (s : State) : Host.Outcome State Fault Refusal :=
  .next (s.drive (dutyWord s.duty.d2))

/-- RD_DUTY3 (R136). -/
def execRdDuty3 (s : State) : Host.Outcome State Fault Refusal :=
  .next (s.drive (dutyWord s.duty.d3))

/-- RD_RSVD (R137): a reserved word reads 0. -/
def execRdRsvd (_w : WordIndex) (s : State) : Host.Outcome State Fault Refusal :=
  .next (s.drive 0)

end Sys2Proof.Machine
end

