-- ==== Sys2Proof/Machine/Engine.lean ====
section
/-! DEFINITION. The trajectory engine: integration, the eight state handlers and the re-dispatch
loop (40_engine_fsm.md R79 to R91). Every intermediate is an exact integer (R80). -/

namespace Sys2Proof.Machine

/-- How a state handler ends (00_scope.md R13). -/
inductive HandlerEnd where
  /-- `continue`: the handler of the new FSM state runs in the same tick -/
  | again (s : State)
  /-- `done`: the FSM phase of the tick ends -/
  | done (s : State)
deriving DecidableEq, Repr

/-- `vd = VEL * DIR` (00_scope.md R14). -/
def State.vd (s : State) : Int := s.vel.toInt * dirInt s.dir

/-- `rem = (TARGET - POS) * DIR` (00_scope.md R14). -/
def State.remaining (s : State) : Int := (s.target.toInt - s.pos.toInt) * dirInt s.dir

/-- MAX_SPEED as an integer. -/
def State.speedLimit (s : State) : Int := s.maxSpeed.toNat

/-- MAX_ACCEL as an integer. -/
def State.accelLimit (s : State) : Int := s.maxAccel.toNat

/-- The exact new position of `integrate(v_new)` (R82). -/
def State.integratedPos (s : State) (vNew : Int) : Int :=
  s.pos.toInt + tdiv (s.vel.toInt + vNew) 2

/-- `integrate(v_new)` (R82): the trapezoidal step, truncated toward zero; a wrap of POS sets
POS_OVF. -/
def State.integrate (s : State) (vNew : Int) : State :=
  { s with
    vel := BitVec.ofInt 32 vNew
    pos := wrap64 (s.integratedPos vNew)
    err := errSetIf ((wrap64 (s.integratedPos vNew)).toInt != s.integratedPos vNew) .posOvf s.err }

/-- `finite_checks()` (R83), with the new VEL and POS. -/
def State.finiteChecks (s : State) : Option Fsm :=
  if 0 < s.vd ∧ s.remaining ≤ 0 then some .standstill
  else if 0 < s.vd ∧ s.accelLimit < brakeAcc s.vd s.remaining then some .decToZero
  else none

/-- The finite-mode exit of ACC and CONST_SPEED: `finite_checks` where JOG = 0, else none. -/
def State.finiteExit (s : State) : Option Fsm :=
  if s.jog = .zero then s.finiteChecks else none

/-- WAIT (R84). -/
def handleWait (s : State) : HandlerEnd :=
  if s.jog ≠ .zero ∨ s.target ≠ s.pos then
    .again { s with moving := true, fcount := s.cfg.len, fsm := .start }
  else .done s

/-- The direction START decides (R85); zero where the engine is at the target with VEL = 0. -/
def State.startDir (s : State) : Dir :=
  if s.jog ≠ .zero then s.jog
  else
    let delta := s.target.toInt - s.pos.toInt
    let d := signDir delta
    if d ≠ .zero then
      let vd := s.vel.toInt * dirInt d
      let r := delta * dirInt d
      if 0 < vd ∧ s.accelLimit ≤ brakeAcc vd r then flipDir d else d
    else flipDir (signDir s.vel.toInt)

/-- START (R85). -/
def handleStart (s : State) : HandlerEnd :=
  if s.startDir = .zero then .again { s with fsm := .standstill }
  else if s.vel.toInt * dirInt s.startDir < s.speedLimit then
    .again { s with dir := s.startDir, fsm := .acc }
  else .again { s with dir := s.startDir, fsm := .dec }

/-- The new speed along DIR in ACC (R86). -/
def State.accSpeed (s : State) : Int := min (s.vd + s.accelLimit) s.speedLimit

/-- The state of ACC after integrating (R86). -/
def State.accIntegrated (s : State) : State := s.integrate (dirInt s.dir * s.accSpeed)

/-- ACC (R86): the exits in the order STANDSTILL, DEC_TO_ZERO, CONST_SPEED. -/
def handleAcc (s : State) : HandlerEnd :=
  .done { s.accIntegrated with
    fsm := s.accIntegrated.finiteExit.getD
      (if s.speedLimit ≤ s.accSpeed then .constSpeed else s.fsm) }

/-- The new speed along DIR in DEC (R87). -/
def State.decSpeed (s : State) : Int := max (s.vd - s.accelLimit) s.speedLimit

/-- DEC (R87). -/
def handleDec (s : State) : HandlerEnd :=
  .done { s.integrate (dirInt s.dir * s.decSpeed) with
    fsm := if s.decSpeed ≤ s.speedLimit then .constSpeed else s.fsm }

/-- The state of CONST_SPEED after integrating (R88). -/
def State.cruiseIntegrated (s : State) : State := s.integrate (dirInt s.dir * s.speedLimit)

/-- CONST_SPEED (R88). -/
def handleConstSpeed (s : State) : HandlerEnd :=
  .done { s.cruiseIntegrated with fsm := s.cruiseIntegrated.finiteExit.getD s.fsm }

/-- The deceleration of DEC_TO_ZERO (R89), for a remaining distance greater than 0. -/
def State.stopDecel (s : State) : Int := max 1 (fdiv (s.vd * s.vd) (2 * s.remaining))

/-- The new speed along DIR in DEC_TO_ZERO (R89). -/
def State.stopSpeed (s : State) : Int := max (s.vd - s.stopDecel) 0

/-- The state of DEC_TO_ZERO after integrating (R89). -/
def State.stopIntegrated (s : State) : State := s.integrate (dirInt s.dir * s.stopSpeed)

/-- DEC_TO_ZERO (R89). -/
def handleDecToZero (s : State) : HandlerEnd :=
  if s.remaining ≤ 0 ∨ s.vd ≤ 0 then .again { s with fsm := .standstill }
  else
    .done { s.stopIntegrated with
      fsm := if s.stopIntegrated.remaining ≤ 0 ∨ s.stopSpeed ≤ 0 then .standstill else s.fsm }

/-- STANDSTILL (R90). -/
def handleStandstill (s : State) : HandlerEnd :=
  .done { s with vel := 0, pos := s.target, dir := .zero, moving := false, fsm := .wait }

/-- The exact stop position of BRAKE (R91), for MAX_ACCEL at least 1. -/
def State.stopPos (s : State) : Int :=
  s.pos.toInt + dirInt (signDir s.vel.toInt) * fdiv (s.vel.toInt * s.vel.toInt) (2 * s.accelLimit)

/-- BRAKE (R91). -/
def handleBrake (s : State) : HandlerEnd :=
  if s.vel = 0 then .again { s with target := s.pos, jog := .zero, fsm := .standstill }
  else
    .again { s with
      target := wrap64 s.stopPos
      err := errSetIf ((wrap64 s.stopPos).toInt != s.stopPos) .posOvf s.err
      jog := .zero
      dir := signDir s.vel.toInt
      fsm := .decToZero }

/-- `handler[FSM]()` (R79). -/
def handle (s : State) : HandlerEnd :=
  match s.fsm with
  | .wait => handleWait s
  | .start => handleStart s
  | .acc => handleAcc s
  | .dec => handleDec s
  | .constSpeed => handleConstSpeed s
  | .decToZero => handleDecToZero s
  | .standstill => handleStandstill s
  | .brake => handleBrake s

/-- The restore of R79 at the cap: (FSM, POS, VEL, DIR, MOVING, FCOUNT, TARGET, JOG) from the
snapshot, and ERR_CAP raised. -/
def State.restoreAtCap (snap s : State) : State :=
  { s with
    fsm := snap.fsm, pos := snap.pos, vel := snap.vel, dir := snap.dir, moving := snap.moving
    fcount := snap.fcount, target := snap.target, jog := snap.jog
    err := s.err ||| errMask .cap }

/-- The re-dispatch loop (R79) with `n` handler runs left. -/
def dispatchLoop (snap : State) : Nat → State → State
  | 0, s => State.restoreAtCap snap s
  | n + 1, s =>
    match handle s with
    | .done s' => s'
    | .again s' => dispatchLoop snap n s'

/-- `run_fsm()` (R79). -/
def State.runFsm (s : State) : State := dispatchLoop s Config.cap s

/-- Would the BRAKE handler of a tick divide by 0? BRAKE is entered by the command alone (R91), so
only a tick that starts in BRAKE can. No reachable state meets it (R95). -/
def State.brakeDividesByZero (s : State) : Bool :=
  s.fsm == .brake && s.vel != 0 && s.maxAccel == 0

end Sys2Proof.Machine
end

