-- ==== Sys2Proof/Machine/Tick.lean ====
section
/-! DEFINITION. TICK (40_engine_fsm.md R78) and RESET (70_reset_and_hazards.md R178), the two PORT
operations. -/

namespace Sys2Proof.Machine

/-- The six phases of a performed tick, in their order (R78). -/
def State.tickPhases (s : State) : State :=
  s.countdown.runFsm.push.latchDuty.clearDirtyAtRest.countTick

/-- BUSY (10_state.md R39). -/
def State.busy (s : State) : Bool := s.busyLeft != 0

/-- TICK, one tick request: refused while BUSY, with ERR_TICK_LOST (60_exceptions.md R166); else the
six phases, and BUSY for the next STEP_CLOCKS - 1 edges (20_memory.md R63). -/
def execTick (s : State) : Host.Outcome State Fault Refusal :=
  if s.busy then .next (s.raise .tickLost)
  else if s.brakeDividesByZero then .fault .divisionByZero
  else .next { s.tickPhases with busyLeft := s.cfg.stepClocks - 1 }

/-- RESET (70_reset_and_hazards.md R178): every stored element of 10_state.md. The constants, what
BUS_RDATA carries, what comes at later edges and the model's counter of free values are not
written. -/
def State.clear (s : State) : State :=
  { s with
    fsm := .wait, pos := 0, vel := 0, dir := .zero, moving := false
    target := 0, jog := .zero, maxSpeed := 0, maxAccel := 1
    buf := List.replicate s.cfg.len 0, sum := 0, widx := 0, fcount := 0
    duty := { d0 := 0, d1 := 0, d2 := 0, d3 := 0 }
    tloHold := 0, targetHiLatch := 0, posHiLatch := 0, fposHiLatch := 0, jumpArg := 0
    err := 0, spDirty := false, ticks := 0, busyLeft := 0 }

/-- RESET (70_reset_and_hazards.md R178). -/
def execReset (s : State) : Host.Outcome State Fault Refusal := .next s.clear

end Sys2Proof.Machine
end

