-- ==== Sys2Proof/Machine/Writes.lean ====
section
/-! DEFINITION. The 10 register writes (42_host_operations.md R138 to R147). -/

namespace Sys2Proof.Machine

/-- WR_ERR (R138). -/
def execWrErr (data : Word) (s : State) : Host.Outcome State Fault Refusal :=
  .next { s with err := errClear data s.err }

/-- WR_TARGET_LO (R139): the hold register only. -/
def execWrTargetLo (data : Word) (s : State) : Host.Outcome State Fault Refusal :=
  .next { s with tloHold := data }

/-- WR_TARGET_HI (R140): commits TARGET. -/
def execWrTargetHi (data : Word) (s : State) : Host.Outcome State Fault Refusal :=
  .next (State.noteSetpoint { s with target := s64 data s.tloHold })

/-- WR_JOG_DIR (R141). -/
def execWrJogDir (data : Word) (s : State) : Host.Outcome State Fault Refusal :=
  match jogOperand data with
  | some j => .next (State.noteSetpoint { s with jog := j })
  | none => .next (s.raise .cfgRej)

/-- WR_MAX_SPEED (R142). -/
def execWrMaxSpeed (data : Word) (s : State) : Host.Outcome State Fault Refusal :=
  match maxSpeedOperand data with
  | some v => .next (State.noteSetpoint { s with maxSpeed := v })
  | none => .next (s.raise .cfgRej)

/-- WR_MAX_ACCEL (R143). -/
def execWrMaxAccel (data : Word) (s : State) : Host.Outcome State Fault Refusal :=
  match maxAccelOperand data with
  | some v => .next (State.noteSetpoint { s with maxAccel := v })
  | none => .next (s.raise .cfgRej)

/-- WR_JUMP_LO (R144): `JUMP_ARG[31:0] <- data`. -/
def execWrJumpLo (data : Word) (s : State) : Host.Outcome State Fault Refusal :=
  .next { s with jumpArg := s64 (hi32 s.jumpArg) data }

/-- WR_JUMP_HI (R145): `JUMP_ARG[63:32] <- data`. -/
def execWrJumpHi (data : Word) (s : State) : Host.Outcome State Fault Refusal :=
  .next { s with jumpArg := s64 data (lo32 s.jumpArg) }

/-- WR_RO (R146): a write to a read-only word is ignored and raises nothing. -/
def execWrRo (_w : WordIndex) (_data : Word) (s : State) : Host.Outcome State Fault Refusal :=
  .next s

/-- WR_RSVD (R147): a write to a reserved word is ignored and raises nothing. -/
def execWrRsvd (_w : WordIndex) (_data : Word) (s : State) : Host.Outcome State Fault Refusal :=
  .next s

end Sys2Proof.Machine
end

