-- ==== Sys2Proof/Machine/Dispatch.lean ====
section
/-! DEFINITION. The meaning of every operation, one arm each. -/

namespace Sys2Proof.Machine

def exec (i : Instr) (s : State) : Host.Outcome State Fault Refusal :=
  match i with
  | .rdCmd => Sys2Proof.Machine.execRdCmd s
  | .rdStatus => Sys2Proof.Machine.execRdStatus s
  | .rdErr => Sys2Proof.Machine.execRdErr s
  | .rdParam => Sys2Proof.Machine.execRdParam s
  | .rdRange => Sys2Proof.Machine.execRdRange s
  | .rdTicks => Sys2Proof.Machine.execRdTicks s
  | .rdTargetLo => Sys2Proof.Machine.execRdTargetLo s
  | .rdTargetHi => Sys2Proof.Machine.execRdTargetHi s
  | .rdJogDir => Sys2Proof.Machine.execRdJogDir s
  | .rdMaxSpeed => Sys2Proof.Machine.execRdMaxSpeed s
  | .rdMaxAccel => Sys2Proof.Machine.execRdMaxAccel s
  | .rdJumpLo => Sys2Proof.Machine.execRdJumpLo s
  | .rdJumpHi => Sys2Proof.Machine.execRdJumpHi s
  | .rdPosLo => Sys2Proof.Machine.execRdPosLo s
  | .rdPosHi => Sys2Proof.Machine.execRdPosHi s
  | .rdVel => Sys2Proof.Machine.execRdVel s
  | .rdAngle => Sys2Proof.Machine.execRdAngle s
  | .rdFposLo => Sys2Proof.Machine.execRdFposLo s
  | .rdFposHi => Sys2Proof.Machine.execRdFposHi s
  | .rdDuty0 => Sys2Proof.Machine.execRdDuty0 s
  | .rdDuty1 => Sys2Proof.Machine.execRdDuty1 s
  | .rdDuty2 => Sys2Proof.Machine.execRdDuty2 s
  | .rdDuty3 => Sys2Proof.Machine.execRdDuty3 s
  | .rdRsvd w => Sys2Proof.Machine.execRdRsvd w s
  | .wrErr data => Sys2Proof.Machine.execWrErr data s
  | .wrTargetLo data => Sys2Proof.Machine.execWrTargetLo data s
  | .wrTargetHi data => Sys2Proof.Machine.execWrTargetHi data s
  | .wrJogDir data => Sys2Proof.Machine.execWrJogDir data s
  | .wrMaxSpeed data => Sys2Proof.Machine.execWrMaxSpeed data s
  | .wrMaxAccel data => Sys2Proof.Machine.execWrMaxAccel data s
  | .wrJumpLo data => Sys2Proof.Machine.execWrJumpLo data s
  | .wrJumpHi data => Sys2Proof.Machine.execWrJumpHi data s
  | .wrRo w data => Sys2Proof.Machine.execWrRo w data s
  | .wrRsvd w data => Sys2Proof.Machine.execWrRsvd w data s
  | .cmdNop => Sys2Proof.Machine.execCmdNop s
  | .cmdUpdate => Sys2Proof.Machine.execCmdUpdate s
  | .cmdBrake => Sys2Proof.Machine.execCmdBrake s
  | .cmdJump => Sys2Proof.Machine.execCmdJump s
  | .cmdRsvd data => Sys2Proof.Machine.execCmdRsvd data s
  | .tick => Sys2Proof.Machine.execTick s
  | .reset => Sys2Proof.Machine.execReset s

end Sys2Proof.Machine
end

