-- ==== Sys2Proof/Machine/Edge.lean ====
section
/-! DEFINITION. What a clock edge adds around the operations it carries: the sampling of the ports,
BUS_RDATA between reads, the order of the operations and the clocking of BUSY. -/

namespace Sys2Proof.Machine

/-- What the ports carry at this edge; nothing is presented where the platform gives no more
(log entry 1). -/
def State.currentEdge (s : State) : Edge := s.inputs.headD Edge.idle

/-- The start of an edge: its port values are taken, and BUS_RDATA no longer carries the value of an
earlier read (20_memory.md R53 drives it only until the next edge), but a free value (log entry 3). -/
def State.enterEdge (s : State) : State :=
  { s with
    inputs := s.inputs.tail
    busRdata := Config.freeRdata s.freeCount
    freeCount := s.freeCount + 1 }

/-- The operations of an edge, one after another, each on the state the one before left
(20_memory.md R61, R62). -/
def runOps : List Instr → State → Host.Outcome State Fault Refusal
  | [], s => .next s
  | i :: is, s =>
    match exec i s with
    | .next s' => runOps is s'
    | .fault r => .fault r
    | .refused r => .refused r

/-- Does this edge's tick request start a tick? (R62: not at an edge with RST = 1; 10_state.md R39:
not while BUSY.) -/
def State.acceptsTick (s : State) (e : Edge) : Bool := e.tick && !e.rst && !s.busy

/-- The end of an edge: BUSY holds one edge less, but at the edge whose tick has just set it
(20_memory.md R63). -/
def State.clockBusy (s : State) (accepted : Bool) : State :=
  { s with busyLeft := if accepted then s.busyLeft else s.busyLeft - 1 }

/-- One edge with the port values `e`. -/
def State.runEdge (s : State) (e : Edge) : Host.Outcome State Fault Refusal :=
  match runOps (decodeEdge e) s.enterEdge with
  | .next s' => .next (s'.clockBusy (s.acceptsTick e))
  | .fault r => .fault r
  | .refused r => .refused r

/-- The state in which the coming edge presents `e` alone, before what was to come. -/
def State.present (s : State) (e : Edge) : State := { s with inputs := e :: s.inputs }

end Sys2Proof.Machine
end

