-- ==== Sys2Proof/Machine/Step.lean ====
section
/-! DEFINITION. One step: one rising edge of CLK. -/

namespace Sys2Proof.Machine

/-- One rising edge of CLK, with what the ports carry at it (20_memory.md R50, R62). -/
def step (s : State) : Host.Outcome State Fault Refusal := s.runEdge s.currentEdge

/-- The state whose very next step runs the operation of a word of the opcode table: the next edge
presents it. A word that no port can present leaves the state as it is. -/
def State.withFetchWord (s : State) (nbits w : Nat) : State :=
  match edgeOfTableWord nbits w with
  | .ok e => s.present e
  | .error _ => s

end Sys2Proof.Machine
end

