-- ==== Sys2Proof/Machine/System.lean ====
section
/-! DEFINITION. A system of several axes, as the platform builds it: NUM_AXES instances that share
nothing (60_exceptions.md R175), each with its register window at its WINDOW_BASE in the host's
address map (20_memory.md R51, R55). No step of an instance uses this file. -/

namespace Sys2Proof.Machine

/-- The word of an instance's window at a byte address of the host: offset `4w` from WINDOW_BASE,
256 bytes in all (20_memory.md R51). An address outside the window, or inside a word, is no access of
the instance (log entry 12, DEDUCED): aliases of the window and what the host's bridge does with
another address are the platform's (R52, R56). -/
def windowWord (c : Config) (addr : Nat) : Option WordIndex :=
  if c.windowBase ≤ addr ∧ addr < c.windowBase + 256 ∧ (addr - c.windowBase) % 4 = 0 then
    some (BitVec.ofNat 6 ((addr - c.windowBase) / 4))
  else none

/-- Do the windows of two instances lie apart? -/
def windowsApart (c c' : Config) : Prop :=
  c.windowBase + 256 ≤ c'.windowBase ∨ c'.windowBase + 256 ≤ c.windowBase

/-- What an instance sees of one host access of one word. -/
def accessEdge (c : Config) (we : Bool) (addr : Nat) (data : Word) : Edge :=
  match windowWord c addr with
  | some w => Edge.ofRequest (requestOf we w data)
  | none => Edge.idle

/-- The instances of a system, one for each axis (60_exceptions.md R175). -/
abbrev System := List State

/-- A system is legal where each instance is, where there are NUM_AXES of them (00_scope.md R6), and
where the platform can tell them apart by their window addresses (60_exceptions.md R175). -/
structure SystemWf (y : System) : Prop where
  legal : ∀ s ∈ y, s.cfg.wf = true
  count : ∀ s ∈ y, s.cfg.numAxes = y.length
  apart : y.Pairwise fun s t => windowsApart s.cfg t.cfg

/-- The system right after reset: one instance for each WINDOW_BASE. -/
def systemReset (c : Config) (bases : List Nat) : System :=
  bases.map fun b => State.resetOf { c with numAxes := bases.length, windowBase := b }

/-- Every instance sees the same host access at its coming edge. -/
def systemAccess (y : System) (we : Bool) (addr : Nat) (data : Word) : System :=
  y.map fun s => s.present (accessEdge s.cfg we addr data)

/-- One rising edge of CLK at every instance: instances share no state and there is no signal between
them (60_exceptions.md R175). -/
def systemStep (y : System) : List (Host.Outcome State Fault Refusal) := y.map step

end Sys2Proof.Machine
end

