-- ==== Sys2Proof/Machine/HostSide.lean ====
section
/-! DEFINITION. What a host does, not what the block does: the text lines of 30_encoding.md R76 and
R77 as port values, and the sequences of 42_host_operations.md R153 to R159. No step uses this file;
claims and programs about the block may. Floating point stands here alone (00_scope.md R5). -/

namespace Sys2Proof.Machine

/-- The register names of 10_state.md R41. -/
inductive Reg where
  | cmd | status | err | param | range | ticks | targetLo | targetHi | jogDir | maxSpeed | maxAccel
  | jumpLo | jumpHi | posLo | posHi | vel | angle | fposLo | fposHi | duty0 | duty1 | duty2 | duty3
deriving DecidableEq, Repr

/-- The word index of a register (10_state.md R41). -/
def regIndex : Reg → WordIndex
  | .cmd => 0
  | .status => 1
  | .err => 2
  | .param => 3
  | .range => 4
  | .ticks => 5
  | .targetLo => 6
  | .targetHi => 7
  | .jogDir => 8
  | .maxSpeed => 9
  | .maxAccel => 10
  | .jumpLo => 12
  | .jumpHi => 13
  | .posLo => 14
  | .posHi => 15
  | .vel => 16
  | .angle => 17
  | .fposLo => 18
  | .fposHi => 19
  | .duty0 => 20
  | .duty1 => 21
  | .duty2 => 22
  | .duty3 => 23

/-- The command names of 30_encoding.md R72. -/
inductive Command where
  | nop | update | brake | jump
deriving DecidableEq, Repr

/-- The command codes of 30_encoding.md R72. -/
def commandCode : Command → Word
  | .nop => 0
  | .update => 1
  | .brake => 2
  | .jump => 3

/-- A bus line of the host program text (30_encoding.md R76). -/
inductive BusLine where
  | rd (r : Reg)
  | wr (r : Reg) (value : Int)
  | cmd (c : Command)
deriving DecidableEq, Repr

/-- A line of the host program text (30_encoding.md R76). -/
inductive Line where
  | bus (b : BusLine)
  /-- `<bus line> & TICK`: one edge carrying both -/
  | busTick (b : BusLine)
  /-- `TICK n` -/
  | tick (n : Nat)
  | reset
deriving DecidableEq, Repr

/-- The request of a bus line; a value is taken modulo 2^32 (30_encoding.md R76). -/
def lineRequest : BusLine → Request
  | .rd r => requestOf false (regIndex r) 0
  | .wr r v => requestOf true (regIndex r) (BitVec.ofInt 32 v)
  | .cmd c => requestOf true (regIndex .cmd) (commandCode c)

/-- The edges of a line. -/
def lineEdges : Line → List Edge
  | .bus b => [Edge.ofRequest (lineRequest b)]
  | .busTick b => [{ Edge.ofRequest (lineRequest b) with tick := true }]
  | .tick n => List.replicate n Edge.ofTick
  | .reset => [Edge.ofReset]

/-- The edges of a program text. -/
def programEdges (p : List Line) : List Edge := p.flatMap lineEdges

/-- `WR64 TARGET, x` (R77, R156). -/
def seqWriteTarget (x : Pos) : List BusLine :=
  [.wr .targetLo (lo32 x).toNat, .wr .targetHi (hi32 x).toNat]

/-- `RD64 TARGET` (R77, R157). -/
def seqReadTarget : List BusLine := [.rd .targetLo, .rd .targetHi]

/-- `RD64 POS` (R77, R157). -/
def seqReadPos : List BusLine := [.rd .posLo, .rd .posHi]

/-- `RD64 FPOS` (R77, R157). -/
def seqReadFpos : List BusLine := [.rd .fposLo, .rd .fposHi]

/-- `MOVE x` (R77, R158). -/
def seqMove (x : Pos) : List BusLine := seqWriteTarget x ++ [.cmd .update]

/-- `JUMP x` (R77, R159). -/
def seqJump (x : Pos) : List BusLine :=
  [.wr .jumpLo (lo32 x).toNat, .wr .jumpHi (hi32 x).toNat, .cmd .jump]

/-- `JOG d` (R77). -/
def seqJog (d : Dir) : List BusLine := [.wr .jogDir (dirInt d), .cmd .update]

/-- `START` (R77, R155). -/
def seqStart : List BusLine := seqJog .pos

/-- `BRAKE` (R77). -/
def seqBrake : List BusLine := [.cmd .brake]

/-- `CLRERR` (R77). -/
def seqClearErr : List BusLine := [.wr .err 0x1F]

/-- The value of a binary64 bit pattern. -/
def doubleOfBits (b : BitVec 64) : Double :=
  let neg := b.getLsbD 63
  let ex := (b.extractLsb' 52 11).toNat
  let frac := (b.extractLsb' 0 52).toNat
  if ex = 2047 then (if frac = 0 then .inf neg else .nan)
  else if ex = 0 then .fin neg frac (-1074)
  else .fin neg (2 ^ 52 + frac) ((ex : Int) - 1075)

/-- `m * 2^e` rounded to binary64, ties to even. -/
def doubleRound (neg : Bool) (m : Nat) (e : Int) : Double :=
  if m = 0 then .fin neg 0 (-1074)
  else
    let len : Int := (m.log2 : Int) + 1
    let e' := max (e + len - 53) (-1074)
    let sh := (e' - e).toNat
    let q := m / 2 ^ sh
    let rest := m % 2 ^ sh
    let up := sh != 0 && (decide (2 ^ sh < 2 * rest) || (2 * rest == 2 ^ sh && q % 2 == 1))
    let q' := if up then q + 1 else q
    let eOut := max e e'
    if q' != 0 && decide (1024 < (q'.log2 : Int) + 1 + eOut) then .inf neg else .fin neg q' eOut

/-- The binary64 product. -/
def doubleMul : Double → Double → Double
  | .nan, _ => .nan
  | _, .nan => .nan
  | .inf a, .inf b => .inf (a != b)
  | .inf a, .fin b m _ => if m = 0 then .nan else .inf (a != b)
  | .fin a m _, .inf b => if m = 0 then .nan else .inf (a != b)
  | .fin a m e, .fin b n f => doubleRound (a != b) (m * n) (e + f)

/-- POSITION_SCALE as a binary64 value; it is exact. -/
def doubleScale (c : Config) : Double := doubleRound false 1 c.p

/-- `round_away` of a value at least 0 (42_host_operations.md R153): to the nearest integer, halves
away from zero. None for a negative number, a NaN or an infinity. -/
def roundAway : Double → Option Nat
  | .fin neg m e =>
    if neg && m != 0 then none
    else if 0 ≤ e then some (m * 2 ^ e.toNat)
    else some ((2 * m + 2 ^ (-e).toNat) / 2 ^ ((-e).toNat + 1))
  | .inf _ => none
  | .nan => none

/-- `speed_counts(v)` (R153) with the instance's POSITION_SCALE and CYCLE_TIME, none where the conversion is refused: v negative or a NaN, or a count
above 2^31 - 1. -/
def speedCounts (c : Config) (v : Double) : Option Nat :=
  match v with
  | .nan => none
  | .inf _ => none
  | .fin neg m _ =>
    if neg && m != 0 then none
    else
      match roundAway (doubleMul (doubleMul v (doubleScale c)) c.cycleTime) with
      | some n => if n ≤ 2 ^ 31 - 1 then some n else none
      | none => none

/-- `accel_counts(a)` (R154), none where the conversion is refused: a not above 0, or a count below 1
or above 2^31 - 1. -/
def accelCounts (c : Config) (a : Double) : Option Nat :=
  match a with
  | .nan => none
  | .inf _ => none
  | .fin neg m _ =>
    if neg || m == 0 then none
    else
      match roundAway (doubleMul (doubleMul (doubleMul a (doubleScale c)) c.cycleTime) c.cycleTime) with
      | some n => if 1 ≤ n ∧ n ≤ 2 ^ 31 - 1 then some n else none
      | none => none

/-- `SET_SPEED v` (R77, R153); a refused call writes nothing. -/
def seqSetSpeed (c : Config) (v : Double) : List BusLine :=
  match speedCounts c v with
  | some n => [.wr .maxSpeed n, .cmd .update]
  | none => []

/-- `SET_ACCEL a` (R77, R154); a refused call writes nothing. -/
def seqSetAccel (c : Config) (a : Double) : List BusLine :=
  match accelCounts c a with
  | some n => [.wr .maxAccel n, .cmd .update]
  | none => []

end Sys2Proof.Machine
end

