-- ==== Sys2Proof/Safety.lean ====
section
/-! DEFINITION. What a safe run is: the properties the spec says every reachable state has. -/

namespace Sys2Proof.Machine

/-- The sum of the entries of BUF (41_filter_commutator.md R104). -/
def bufTotal (b : List Pos) : Int := (b.map BitVec.toInt).sum

/-- The states whose handler advances VEL and POS (00_scope.md R16). -/
def isIntegrating : Fsm → Bool
  | .acc | .dec | .constSpeed | .decToZero => true
  | .wait | .start | .standstill | .brake => false

/-- What holds in every state reachable from RESET (10_state.md, 40_engine_fsm.md section 5,
41_filter_commutator.md). -/
structure Inv (s : State) : Prop where
  /-- the build is legal (00_scope.md R6) -/
  cfgLegal : s.cfg.wf = true
  /-- MAX_ACCEL is at least 1 (10_state.md R28) -/
  accelPos : s.maxAccel ≠ 0
  /-- MOVING = 1 exactly when FSM is not WAIT (10_state.md R23) -/
  movingIff : s.moving = true ↔ s.fsm ≠ .wait
  /-- at rest VEL = 0 (40_engine_fsm.md R97) -/
  restVel : s.fsm = .wait → s.vel = 0
  /-- at rest DIR = 0 (40_engine_fsm.md R97) -/
  restDir : s.fsm = .wait → s.dir = .zero
  /-- DIR is not 0 in an integrating state (40_engine_fsm.md R94) -/
  dirSet : isIntegrating s.fsm = true → s.dir ≠ .zero
  /-- VEL is never 0x80000000 (40_engine_fsm.md R93) -/
  velBound : s.vel ≠ 0x80000000#32
  /-- BUF has L entries (10_state.md R29) -/
  bufLength : s.buf.length = s.cfg.len
  /-- SUM is the sum of BUF (41_filter_commutator.md R104) -/
  sumIsTotal : s.sum = bufTotal s.buf
  /-- WIDX is an index of BUF (10_state.md R31) -/
  widxInRange : s.widx < s.cfg.len
  /-- FCOUNT is 0..L (10_state.md R32) -/
  fcountInRange : s.fcount ≤ s.cfg.len
  /-- FCOUNT is L while the raw motion lasts (41_filter_commutator.md R101, R102) -/
  fcountMoving : s.fsm ≠ .wait → s.fcount = s.cfg.len
  /-- each duty value is 0..RANGE-1 (10_state.md R34) -/
  duty0InRange : s.duty.d0.toNat < s.cfg.range
  duty1InRange : s.duty.d1.toNat < s.cfg.range
  duty2InRange : s.duty.d2.toNat < s.cfg.range
  duty3InRange : s.duty.d3.toNat < s.cfg.range
  /-- ERR.CAP is never set (40_engine_fsm.md R96) -/
  capClear : s.hasErr .cap = false
  /-- SP_DIRTY is set in motion alone (10_state.md R37) -/
  dirtyMoving : s.spDirty = true → s.fsm ≠ .wait
  /-- BUSY holds at most STEP_CLOCKS - 1 further edges (20_memory.md R63) -/
  busyInRange : s.busyLeft ≤ s.cfg.stepClocks - 1

/-- FCOUNT after phase 1 of a tick (41_filter_commutator.md R101). -/
def countedDown (s : State) : Nat :=
  if s.moving = false ∧ 0 < s.fcount then s.fcount - 1 else s.fcount

/-- ERR after a 64-bit position whose exact value is `x` was written by a tick (60_exceptions.md
R162): POS_OVF is set where the value does not fit 64 signed bits. -/
def errAfterPos (err : BitVec 5) (x : Int) : BitVec 5 :=
  if -(2 ^ 63) ≤ x ∧ x < 2 ^ 63 then err else err ||| 1#5

/-- A tick that writes the exact value `x` to a 64-bit position wraps it, and the position is `p`
(60_exceptions.md R162). -/
def wrapsTo (x : Int) (p : Pos) : Prop := (x < -(2 ^ 63) ∨ 2 ^ 63 ≤ x) ∧ p = BitVec.ofInt 64 x

/-- The engine, FCOUNT and ERR, all that phases 1 and 2 of a tick write (40_engine_fsm.md R78), are
in `t` as in `u`. -/
structure SameEngine (u t : State) : Prop where
  fsm : t.fsm = u.fsm
  pos : t.pos = u.pos
  vel : t.vel = u.vel
  dir : t.dir = u.dir
  moving : t.moving = u.moving
  target : t.target = u.target
  jog : t.jog = u.jog
  fcount : t.fcount = u.fcount
  err : t.err = u.err

/-- What a performed tick from `s` to `t` does outside its FSM phase, and what it leaves unchanged
(40_engine_fsm.md R78, phases 3 to 6; 10_state.md R35, R40). -/
structure TickFrame (s t : State) : Prop where
  /-- phase 3 (41_filter_commutator.md R103) -/
  sumPushed : t.sum = s.sum + t.pos.toInt - (s.buf.getD s.widx 0).toInt
  bufPushed : t.buf = s.buf.set s.widx t.pos
  widxMoved : t.widx = (s.widx + 1) % 2 ^ s.cfg.log2L
  /-- phase 4 (41_filter_commutator.md R111) -/
  dutyLatched : t.duty = commutate s.cfg t.angle
  /-- phase 5 -/
  dirtyCleared : t.spDirty = (s.spDirty && t.fsm != .wait)
  /-- phase 6 -/
  ticksCounted : t.ticks = s.ticks + 1
  /-- BUSY for the next STEP_CLOCKS - 1 edges (20_memory.md R63) -/
  busySet : t.busyLeft = s.cfg.stepClocks - 1
  sameCfg : t.cfg = s.cfg
  sameMaxSpeed : t.maxSpeed = s.maxSpeed
  sameMaxAccel : t.maxAccel = s.maxAccel
  sameTloHold : t.tloHold = s.tloHold
  sameTargetHiLatch : t.targetHiLatch = s.targetHiLatch
  samePosHiLatch : t.posHiLatch = s.posHiLatch
  sameFposHiLatch : t.fposHiLatch = s.fposHiLatch
  sameJumpArg : t.jumpArg = s.jumpArg
  sameBusRdata : t.busRdata = s.busRdata
  sameInputs : t.inputs = s.inputs
  sameFreeCount : t.freeCount = s.freeCount

/-- `t` is the mirror image of `s`: every signed quantity of the engine is negated, the rest of the
engine and the limits are the same (40_engine_fsm.md R82). -/
structure Mirrored (s t : State) : Prop where
  pos : t.pos.toInt = -s.pos.toInt
  target : t.target.toInt = -s.target.toInt
  vel : t.vel.toInt = -s.vel.toInt
  dir : t.dir = flipDir s.dir
  jog : t.jog = flipDir s.jog
  fsm : t.fsm = s.fsm
  moving : t.moving = s.moving
  fcount : t.fcount = s.fcount
  maxSpeed : t.maxSpeed = s.maxSpeed
  maxAccel : t.maxAccel = s.maxAccel
  len : t.cfg.len = s.cfg.len

/-- The operations that host sequences stand for (Machine/HostSide.lean). -/
def lineOps (bs : List BusLine) : List Instr := bs.map fun b => decodeRequest (lineRequest b)

end Sys2Proof.Machine
end

