-- ==== Sys2Proof/Certificates/Slice0/Obligations.lean ====
section
/-! DEFINITION. The statements for the provers. -/

open Sys2Proof Sys2Proof.Machine

/-! ## Encoding -/

/-- Decode and encode agree for every well-formed operation (30_encoding.md R69, R70, R72, R73). -/
def Obligations.DecodeOfEncodeIsTheOperation : Prop :=
  ∀ i : Instr, i.wf = true → decodeEdge (encode i) = [i]

/-- Every request is one well-formed operation whose encoding is that request, but for the
don't-care DATA of a read (30_encoding.md R70). -/
def Obligations.EveryRequestIsOneOperation : Prop :=
  ∀ q : Request, (decodeRequest q).wf = true ∧
    encodeRequest (decodeRequest q) =
      some (if q.getLsbD 38 then q else requestOf false (q.extractLsb' 32 6) 0)

/-- Requests of the spec's programs P1 to P4 (95_test_vectors.md L3) decode to what stands beside
them, and the two strobes to TICK and RESET. -/
def Obligations.SampleRequestsDecode : Prop :=
  decodeTableWord 40 0x4A0000000A = some (.wrMaxAccel 10) ∧
  decodeTableWord 40 0x49000001F4 = some (.wrMaxSpeed 500) ∧
  decodeTableWord 40 0x4600002710 = some (.wrTargetLo 10000) ∧
  decodeTableWord 40 0x4700000000 = some (.wrTargetHi 0) ∧
  decodeTableWord 40 0x4800000001 = some (.wrJogDir 1) ∧
  decodeTableWord 40 0x420000001F = some (.wrErr 0x1F) ∧
  decodeTableWord 40 0x4CFFFFFF9C = some (.wrJumpLo 0xFFFFFF9C) ∧
  decodeTableWord 40 0x4000000001 = some .cmdUpdate ∧
  decodeTableWord 40 0x4000000002 = some .cmdBrake ∧
  decodeTableWord 40 0x4000000003 = some .cmdJump ∧
  decodeTableWord 40 0x4000000007 = some (.cmdRsvd 7) ∧
  decodeTableWord 40 0x0100000000 = some .rdStatus ∧
  decodeTableWord 40 0x0E00000000 = some .rdPosLo ∧
  decodeTableWord 40 0x1300000000 = some .rdFposHi ∧
  decodeTableWord 8 1 = some .tick ∧
  decodeTableWord 8 2 = some .reset

/-! ## Edges and steps -/

/-- Where the coming edge decodes to exactly one operation `i`, whatever its ports carry beside it (a
read's DATA; the bus ports of a tick with BUS_EN = 0; everything at an edge with RST = 1), the step is
`exec i` on the state at that edge (the port values taken; BUS_RDATA no longer driven, the model's
free value of log entry 3), and then BUSY holds one edge less, unless this edge's tick has just set
it (log entry 5). -/
def Obligations.StepRunsThePresentedOperation : Prop :=
  ∀ (s : State) (i : Instr) (e : Edge) (rest : List Edge), s.inputs = e :: rest →
    decodeEdge e = [i] →
    step s =
      match exec i { s with
          inputs := rest
          busRdata := Config.freeRdata s.freeCount
          freeCount := s.freeCount + 1 } with
      | .next t =>
        .next { t with
          busyLeft := if i = .tick ∧ s.busyLeft = 0 then t.busyLeft else t.busyLeft - 1 }
      | .fault r => .fault r
      | .refused r => .refused r

/-- 20_memory.md R62: at an edge with RST = 1 only RESET is performed; otherwise the host access
comes first and then the tick. -/
def Obligations.EdgeOrderIsResetThenAccessThenTick : Prop :=
  ∀ (s : State) (e : Edge) (rest : List Edge), s.inputs = e :: rest →
    let s0 : State := { s with
      inputs := rest
      busRdata := Config.freeRdata s.freeCount
      freeCount := s.freeCount + 1 }
    (e.rst = true → step s = exec .reset s0) ∧
    (e.rst = false → e.busEn = true → e.tick = true → ∀ s1 s2 : State,
      exec (decodeRequest e.request) s0 = .next s1 → exec .tick s1 = .next s2 →
      step s = .next { s2 with
        busyLeft := if s.busyLeft = 0 then s2.busyLeft else s2.busyLeft - 1 })

/-- 60_exceptions.md R177: an edge with no strobe and no access changes nothing of the block, but
that BUSY is clocked. BUS_RDATA is the model's free value (log entry 3), and where no more input is
listed nothing is presented (log entry 1). -/
def Obligations.IdleEdgeOnlyClocksBusy : Prop :=
  ∀ s : State,
    (s.inputs = [] ∨ ∃ e rest, s.inputs = e :: rest ∧ e.rst = false ∧ e.tick = false ∧
      e.busEn = false) →
    step s = .next { s with
      inputs := s.inputs.tail
      busRdata := Config.freeRdata s.freeCount
      freeCount := s.freeCount + 1
      busyLeft := s.busyLeft - 1 }

/-- 20_memory.md R62: "set wins". An error that the tick raises at the edge of a W1C write to ERR is
set after the edge. -/
def Obligations.TickErrorWinsOverSameEdgeClear : Prop :=
  ∀ (s u : State) (e : Edge) (rest : List Edge) (b : ErrBit), s.inputs = e :: rest →
    e.rst = false → e.busEn = true → e.tick = true → e.busWe = true → e.busW = 2 →
    exec .tick { s with err := 0 } = .next u → u.hasErr b = true →
    ∃ t, step s = .next t ∧ t.hasErr b = true

/-- No step stops in a state that has the properties of the reachable states (60_exceptions.md
R167). -/
def Obligations.EveryStepCompletes : Prop :=
  ∀ s : State, Inv s → ∃ t, step s = .next t

/-- 20_memory.md R63, 60_exceptions.md R166: with TICK held for STEP_CLOCKS edges from an edge where
BUSY is 0, exactly one tick is performed, each of the others is lost and flagged, and BUSY is 0 again
after them. -/
def Obligations.TicksWhileBusyAreLost : Prop :=
  ∀ s : State, 1 ≤ s.cfg.stepClocks → s.busyLeft = 0 → s.maxAccel ≠ 0 →
    s.inputs = List.replicate s.cfg.stepClocks Edge.ofTick →
    ∃ t, Host.Core.run Sys2Proof.core s.cfg.stepClocks s = .next t ∧
      t.ticks = s.ticks + 1 ∧ t.busyLeft = 0 ∧
      (2 ≤ s.cfg.stepClocks → t.hasErr .tickLost = true)

/-! ## Reset -/

/-- 70_reset_and_hazards.md R178, 10_state.md R49: RESET leaves every stored element at its reset
value, whatever the state. An edge with RST = 1 is RESET and nothing else. That RESET leaves
BUS_RDATA as it was is the model's choice, log entry 4 (R178 says nothing of the port), and so is
that it leaves the model's own fields, the coming inputs (log entry 1) and the counter of free values
(log entry 3). -/
def Obligations.ResetLeavesTheResetState : Prop :=
  (∀ e : Edge, e.rst = true → decodeEdge e = [.reset]) ∧
  ∀ s : State, exec .reset s = .next { State.resetOf s.cfg with
    busRdata := s.busRdata, inputs := s.inputs, freeCount := s.freeCount }

/-- What a word of the window is, is what a read of it drives on BUS_RDATA, from every state and
whatever DATA the read carries (10_state.md R41, 20_memory.md R53). And what the host so reads right
after RESET (95_test_vectors.md L2.6): every word is 0 but PARAM, RANGE and MAX_ACCEL, and MAX_ACCEL
is 1. -/
def Obligations.ReadsReturnTheWindowAndResetClearsIt : Prop :=
  (∀ (s : State) (w : WordIndex) (d : Word), decodeRequest (requestOf false w d) = readOp w ∧
    ∃ t, exec (readOp w) s = .next t ∧ t.busRdata = s.window w) ∧
  (∀ (s t : State) (w : WordIndex), exec .reset s = .next t →
    t.window w =
      if w = 3 then paramWord s.cfg else if w = 4 then rangeWord s.cfg
      else if w = 10 then 1 else 0)

/-! ## Invariants -/

/-- The properties of the reachable states hold right after reset of every legal build. -/
def Obligations.InvAtReset : Prop :=
  (∀ c : Config, c.wf = true → Inv (State.resetOf c)) ∧ Inv State.reset

/-- Every step keeps the properties of the reachable states. -/
def Obligations.StepKeepsInv : Prop :=
  ∀ s t : State, Inv s → step s = .next t → Inv t

/-- 10_state.md R28: MAX_ACCEL stays at least 1 under every operation, in every state. -/
def Obligations.MaxAccelStaysPositive : Prop :=
  ∀ (i : Instr) (s t : State), s.maxAccel ≠ 0 → exec i s = .next t → 1 ≤ t.maxAccel.toNat

/-- 41_filter_commutator.md R105: the filtered position lies between the least and the greatest BUF
entry, so its 64-bit reading is its value. -/
def Obligations.FposLiesBetweenBufEntries : Prop :=
  ∀ s : State, Inv s →
    (∃ x ∈ s.buf, x.toInt ≤ s.fpos) ∧ (∃ x ∈ s.buf, s.fpos ≤ x.toInt) ∧
    s.fposBits.toInt = s.fpos

/-! ## Reads -/

/-- RD_CMD and RD_RSVD, which a read of word 0, 11 or 24 to 63 is, return 0 and have no effect
(42_host_operations.md R114, R137). -/
def Obligations.CommandAndReservedReadsGiveZero : Prop :=
  ∀ (s : State) (w : WordIndex) (d : Word),
    decodeRequest (requestOf false 0 d) = .rdCmd ∧
    (w.toNat = 11 ∨ 24 ≤ w.toNat → decodeRequest (requestOf false w d) = .rdRsvd w) ∧
    exec .rdCmd s = .next { s with busRdata := 0 } ∧
    exec (.rdRsvd w) s = .next { s with busRdata := 0 }

/-- RD_STATUS (42_host_operations.md R115, 10_state.md R43): the fields of one instant, STATE by the
codes of 10_state.md R19, and every bit not listed reads 0. -/
def Obligations.StatusReadShowsTheFlags : Prop :=
  ∀ (s : State) (d : Word), decodeRequest (requestOf false 1 d) = .rdStatus ∧
    ∃ v : Word, exec .rdStatus s = .next { s with busRdata := v } ∧
    (v.extractLsb' 0 3).toNat =
      (match s.fsm with
        | .wait => 0
        | .start => 1
        | .acc => 2
        | .dec => 3
        | .constSpeed => 4
        | .decToZero => 5
        | .standstill => 6
        | .brake => 7) ∧
    v.extractLsb' 3 1 = 0 ∧
    v.extractLsb' 4 2 = BitVec.ofInt 2 (dirInt s.dir) ∧ v.extractLsb' 6 2 = 0 ∧
    v.getLsbD 8 = s.moving ∧ v.getLsbD 9 = decide (s.fcount ≠ 0) ∧ v.getLsbD 10 = s.spDirty ∧
    v.extractLsb' 11 5 = 0 ∧ (v.extractLsb' 16 9).toNat = s.fcount % 512 ∧
    v.extractLsb' 25 7 = 0

/-- RD_PARAM and RD_RANGE (42_host_operations.md R117, R118; 10_state.md R47, R48) of a legal
build. -/
def Obligations.ParamAndRangeReadTheBuild : Prop :=
  ∀ (s : State) (d : Word), s.cfg.wf = true →
    decodeRequest (requestOf false 3 d) = .rdParam ∧
    decodeRequest (requestOf false 4 d) = .rdRange ∧
    (∃ v : Word, exec .rdParam s = .next { s with busRdata := v } ∧
      (v.extractLsb' 0 4).toNat = s.cfg.log2L ∧ v.extractLsb' 4 4 = 0 ∧
      (v.extractLsb' 8 6).toNat = s.cfg.p ∧ v.extractLsb' 14 2 = 0 ∧
      (v.extractLsb' 16 6).toNat = s.cfg.lutBits ∧ v.extractLsb' 22 2 = 0 ∧
      (v.extractLsb' 24 8).toNat = 1) ∧
    (∃ v : Word, exec .rdRange s = .next { s with busRdata := v } ∧ v.toNat = s.cfg.range)

/-- The reads that return one register and write nothing (42_host_operations.md R116, R119, R121 to
R126, R128, R129, R132). -/
def Obligations.RegisterReadsReturnTheRegister : Prop :=
  ∀ (s : State) (d : Word),
    decodeRequest (requestOf false 2 d) = .rdErr ∧
    decodeRequest (requestOf false 5 d) = .rdTicks ∧
    decodeRequest (requestOf false 7 d) = .rdTargetHi ∧
    decodeRequest (requestOf false 8 d) = .rdJogDir ∧
    decodeRequest (requestOf false 9 d) = .rdMaxSpeed ∧
    decodeRequest (requestOf false 10 d) = .rdMaxAccel ∧
    decodeRequest (requestOf false 12 d) = .rdJumpLo ∧
    decodeRequest (requestOf false 13 d) = .rdJumpHi ∧
    decodeRequest (requestOf false 15 d) = .rdPosHi ∧
    decodeRequest (requestOf false 16 d) = .rdVel ∧
    decodeRequest (requestOf false 19 d) = .rdFposHi ∧
    (∃ v : Word, exec .rdErr s = .next { s with busRdata := v } ∧ v.toNat = s.err.toNat) ∧
    exec .rdTicks s = .next { s with busRdata := s.ticks } ∧
    exec .rdTargetHi s = .next { s with busRdata := s.targetHiLatch } ∧
    (∃ v : Word, exec .rdJogDir s = .next { s with busRdata := v } ∧ v.toInt = dirInt s.jog) ∧
    (∃ v : Word, exec .rdMaxSpeed s = .next { s with busRdata := v } ∧
      v.toNat = s.maxSpeed.toNat) ∧
    (∃ v : Word, exec .rdMaxAccel s = .next { s with busRdata := v } ∧
      v.toNat = s.maxAccel.toNat) ∧
    (∃ lo hi : Word, exec .rdJumpLo s = .next { s with busRdata := lo } ∧
      exec .rdJumpHi s = .next { s with busRdata := hi } ∧ hi ++ lo = s.jumpArg) ∧
    exec .rdPosHi s = .next { s with busRdata := s.posHiLatch } ∧
    (∃ v : Word, exec .rdVel s = .next { s with busRdata := v } ∧ v.toInt = s.vel.toInt) ∧
    exec .rdFposHi s = .next { s with busRdata := s.fposHiLatch }

/-- RD_ANGLE (42_host_operations.md R130, 41_filter_commutator.md R107): FPOS mod 2^P with FPOS the
floor of SUM / L, from the current SUM; and RD_DUTY0 to RD_DUTY3 (42_host_operations.md R133 to
R136): the latched values. -/
def Obligations.AngleAndDutyReads : Prop :=
  ∀ (s : State) (d : Word),
    decodeRequest (requestOf false 17 d) = .rdAngle ∧
    decodeRequest (requestOf false 20 d) = .rdDuty0 ∧
    decodeRequest (requestOf false 21 d) = .rdDuty1 ∧
    decodeRequest (requestOf false 22 d) = .rdDuty2 ∧
    decodeRequest (requestOf false 23 d) = .rdDuty3 ∧
    (s.cfg.wf = true → ∃ v : Word, exec .rdAngle s = .next { s with busRdata := v } ∧
      (v.toNat : Int) = Int.fdiv s.sum (2 ^ s.cfg.log2L) % 2 ^ s.cfg.p) ∧
    (∃ v : Word, exec .rdDuty0 s = .next { s with busRdata := v } ∧ v.toNat = s.duty.d0.toNat) ∧
    (∃ v : Word, exec .rdDuty1 s = .next { s with busRdata := v } ∧ v.toNat = s.duty.d1.toNat) ∧
    (∃ v : Word, exec .rdDuty2 s = .next { s with busRdata := v } ∧ v.toNat = s.duty.d2.toNat) ∧
    (∃ v : Word, exec .rdDuty3 s = .next { s with busRdata := v } ∧ v.toNat = s.duty.d3.toNat)

/-- RD_TARGET_LO, RD_POS_LO and RD_FPOS_LO (42_host_operations.md R120, R127, R131): the low half is
returned and the high half of the same instant latched; nothing else is written. -/
def Obligations.LowReadsLatchTheHighHalf : Prop :=
  ∀ (s : State) (d : Word),
    decodeRequest (requestOf false 6 d) = .rdTargetLo ∧
    decodeRequest (requestOf false 14 d) = .rdPosLo ∧
    decodeRequest (requestOf false 18 d) = .rdFposLo ∧
    (∃ lo hi : Word,
      exec .rdTargetLo s = .next { s with busRdata := lo, targetHiLatch := hi } ∧
      hi ++ lo = s.target) ∧
    (∃ lo hi : Word, exec .rdPosLo s = .next { s with busRdata := lo, posHiLatch := hi } ∧
      hi ++ lo = s.pos) ∧
    (∃ lo hi : Word, exec .rdFposLo s = .next { s with busRdata := lo, fposHiLatch := hi } ∧
      hi ++ lo = BitVec.ofInt 64 (Int.fdiv s.sum (2 ^ s.cfg.log2L)))

/-- 42_host_operations.md R157: a `_LO` read and a later `_HI` read give the 64-bit value of the
instant of the `_LO` read, whatever operations come between, other than a further read of that `_LO`
word and RESET. -/
def Obligations.LowThenHighReadIsOneInstant : Prop :=
  ∀ (s s1 s2 t : State) (is : List Instr), runOps is s1 = .next s2 → Instr.reset ∉ is →
    (exec .rdTargetLo s = .next s1 → Instr.rdTargetLo ∉ is → exec .rdTargetHi s2 = .next t →
      t.busRdata ++ s1.busRdata = s.target) ∧
    (exec .rdPosLo s = .next s1 → Instr.rdPosLo ∉ is → exec .rdPosHi s2 = .next t →
      t.busRdata ++ s1.busRdata = s.pos) ∧
    (exec .rdFposLo s = .next s1 → Instr.rdFposLo ∉ is → exec .rdFposHi s2 = .next t →
      t.busRdata ++ s1.busRdata = s.fposBits)

/-- 20_memory.md R51, R55: word `w` of an instance stands at byte address WINDOW_BASE + 4w; and the
bytes of a window word are little-endian. That the addresses outside the window's 256 bytes are no
words of the instance, and that windows that lie apart share no address, is the model's reading, log
entry 12 (DEDUCED from R51 and 60_exceptions.md R175): aliasing in the host's map and the conversion
of an address are left to the platform (20_memory.md R52, R56). -/
def Obligations.WindowStandsAtItsBaseLittleEndian : Prop :=
  (∀ (c : Config) (w : WordIndex), windowWord c (c.windowBase + 4 * w.toNat) = some w) ∧
  (∀ (c : Config) (addr : Nat), addr < c.windowBase ∨ c.windowBase + 256 ≤ addr →
    windowWord c addr = none) ∧
  (∀ (c c' : Config) (addr : Nat) (w : WordIndex), windowsApart c c' →
    windowWord c addr = some w → windowWord c' addr = none) ∧
  (∀ (s : State) (w : WordIndex),
    s.windowByte (w ++ (3 : BitVec 2)) ++ s.windowByte (w ++ (2 : BitVec 2)) ++
      s.windowByte (w ++ (1 : BitVec 2)) ++ s.windowByte (w ++ (0 : BitVec 2)) = s.window w)

/-! ## Writes -/

/-- WR_ERR (42_host_operations.md R138): the selected bits are cleared, the others and everything
else stay. -/
def Obligations.ErrWriteClearsTheSelectedBits : Prop :=
  ∀ (s : State) (data : Word), decodeRequest (requestOf true 2 data) = .wrErr data ∧
    ∃ e : BitVec 5,
    exec (.wrErr data) s = .next { s with err := e } ∧
    ∀ i, i < 5 → e.getLsbD i = (s.err.getLsbD i && !data.getLsbD i)

/-- WR_TARGET_LO and WR_TARGET_HI (42_host_operations.md R139, R140): the low write fills the hold
register alone; the high write commits the 64-bit value, and marks it where FSM is not WAIT. -/
def Obligations.TargetIsCommittedByTheHighWrite : Prop :=
  ∀ (s : State) (lo hi : Word),
    decodeRequest (requestOf true 6 lo) = .wrTargetLo lo ∧
    decodeRequest (requestOf true 7 hi) = .wrTargetHi hi ∧
    exec (.wrTargetLo lo) s = .next { s with tloHold := lo } ∧
    exec (.wrTargetHi hi) s = .next { s with
      target := hi ++ s.tloHold
      spDirty := s.spDirty || decide (s.fsm ≠ .wait) }

/-- WR_JOG_DIR (42_host_operations.md R141). -/
def Obligations.JogDirWriteTakesThreeValues : Prop :=
  ∀ (s : State) (data : Word), decodeRequest (requestOf true 8 data) = .wrJogDir data ∧
    ((data.toInt = -1 ∨ data.toInt = 0 ∨ data.toInt = 1) →
      ∃ j : Dir, dirInt j = data.toInt ∧
        exec (.wrJogDir data) s = .next { s with
          jog := j
          spDirty := s.spDirty || decide (s.fsm ≠ .wait) }) ∧
    (¬ (data.toInt = -1 ∨ data.toInt = 0 ∨ data.toInt = 1) →
      exec (.wrJogDir data) s = .next { s with err := s.err ||| 0b00100#5 })

/-- WR_MAX_SPEED (42_host_operations.md R142). -/
def Obligations.MaxSpeedWriteTakesThirtyOneBits : Prop :=
  ∀ (s : State) (data : Word), decodeRequest (requestOf true 9 data) = .wrMaxSpeed data ∧
    (data.toNat < 2 ^ 31 →
      ∃ v : BitVec 31, v.toNat = data.toNat ∧
        exec (.wrMaxSpeed data) s = .next { s with
          maxSpeed := v
          spDirty := s.spDirty || decide (s.fsm ≠ .wait) }) ∧
    (2 ^ 31 ≤ data.toNat →
      exec (.wrMaxSpeed data) s = .next { s with err := s.err ||| 0b00100#5 })

/-- WR_MAX_ACCEL (42_host_operations.md R143). -/
def Obligations.MaxAccelWriteTakesPositiveThirtyOneBits : Prop :=
  ∀ (s : State) (data : Word), decodeRequest (requestOf true 10 data) = .wrMaxAccel data ∧
    (1 ≤ data.toNat → data.toNat < 2 ^ 31 →
      ∃ v : BitVec 31, v.toNat = data.toNat ∧
        exec (.wrMaxAccel data) s = .next { s with
          maxAccel := v
          spDirty := s.spDirty || decide (s.fsm ≠ .wait) }) ∧
    (data.toNat = 0 ∨ 2 ^ 31 ≤ data.toNat →
      exec (.wrMaxAccel data) s = .next { s with err := s.err ||| 0b00100#5 })

/-- WR_JUMP_LO and WR_JUMP_HI (42_host_operations.md R144, R145): each writes its own half. -/
def Obligations.JumpArgWritesSetTheirHalf : Prop :=
  ∀ (s : State) (data : Word),
    decodeRequest (requestOf true 12 data) = .wrJumpLo data ∧
    decodeRequest (requestOf true 13 data) = .wrJumpHi data ∧
    exec (.wrJumpLo data) s = .next { s with jumpArg := s.jumpArg.extractLsb' 32 32 ++ data } ∧
    exec (.wrJumpHi data) s = .next { s with jumpArg := data ++ s.jumpArg.extractLsb' 0 32 }

/-- WR_RO and WR_RSVD (42_host_operations.md R146, R147), which a write to a read-only and to a
reserved word is, and CMD_NOP (R148) change no state. -/
def Obligations.IgnoredWritesChangeNothing : Prop :=
  ∀ (s : State) (w : WordIndex) (data : Word),
    ((w.toNat = 1 ∨ (3 ≤ w.toNat ∧ w.toNat ≤ 5) ∨ (14 ≤ w.toNat ∧ w.toNat ≤ 23)) →
      decodeRequest (requestOf true w data) = .wrRo w data) ∧
    (w.toNat = 11 ∨ 24 ≤ w.toNat → decodeRequest (requestOf true w data) = .wrRsvd w data) ∧
    decodeRequest (requestOf true 0 0) = .cmdNop ∧
    exec (.wrRo w data) s = .next s ∧ exec (.wrRsvd w data) s = .next s ∧
    exec .cmdNop s = .next s

/-- A write to a register changes no other word of the window, but STATUS (SP_DIRTY), ERR, and
TARGET_LO where TARGET_HI is written (20_memory.md R64, 10_state.md R41). -/
def Obligations.RegisterWritesKeepTheOtherWords : Prop :=
  ∀ (s t : State) (w v : WordIndex) (data : Word), w ≠ 0 →
    exec (writeOp w data) s = .next t → v ≠ w → v ≠ 1 → v ≠ 2 → ¬ (w = 7 ∧ v = 6) →
    t.window v = s.window v

/-! ## Commands -/

/-- CMD_UPDATE (42_host_operations.md R149). -/
def Obligations.UpdateReplansFromStart : Prop :=
  ∀ s : State, decodeRequest (requestOf true 0 1) = .cmdUpdate ∧
    (s.fsm = .wait → exec .cmdUpdate s = .next s) ∧
    (s.fsm = .brake → exec .cmdUpdate s = .next { s with err := s.err ||| 0b00010#5 }) ∧
    (s.fsm ≠ .wait → s.fsm ≠ .brake →
      exec .cmdUpdate s = .next { s with fsm := .start, spDirty := false })

/-- CMD_BRAKE (42_host_operations.md R150). -/
def Obligations.BrakeNeedsAMovingState : Prop :=
  ∀ s : State, decodeRequest (requestOf true 0 2) = .cmdBrake ∧
    (s.fsm = .acc ∨ s.fsm = .dec ∨ s.fsm = .constSpeed ∨ s.fsm = .decToZero →
      exec .cmdBrake s = .next { s with fsm := .brake }) ∧
    (s.fsm = .wait ∨ s.fsm = .start ∨ s.fsm = .standstill ∨ s.fsm = .brake →
      exec .cmdBrake s = .next { s with err := s.err ||| 0b00010#5 })

/-- CMD_JUMP (42_host_operations.md R151): accepted in WAIT alone; the filter is flushed, so FPOS is
the new position at once, and DUTY, JOG, the limits, TICKS and ERR keep their values. -/
def Obligations.JumpNeedsRestAndFlushesTheFilter : Prop :=
  ∀ s : State, decodeRequest (requestOf true 0 3) = .cmdJump ∧
    (s.fsm = .wait → ∃ t : State, exec .cmdJump s = .next t ∧
      t = { s with
        pos := s.jumpArg, target := s.jumpArg, vel := 0, dir := .zero, moving := false
        fcount := 0, buf := List.replicate (2 ^ s.cfg.log2L) s.jumpArg
        sum := 2 ^ s.cfg.log2L * s.jumpArg.toInt, widx := 0, spDirty := false } ∧
      t.fpos = s.jumpArg.toInt) ∧
    (s.fsm ≠ .wait → exec .cmdJump s = .next { s with err := s.err ||| 0b00010#5 })

/-- CMD_RSVD (42_host_operations.md R152): ERR.CMD_REJ only. -/
def Obligations.ReservedCommandIsRejected : Prop :=
  ∀ (s : State) (data : Word),
    (3 < data.toNat → decodeRequest (requestOf true 0 data) = .cmdRsvd data) ∧
    exec (.cmdRsvd data) s = .next { s with err := s.err ||| 0b00010#5 }

/-! ## The tick -/

/-- A tick request while BUSY is dropped: no phase runs, TICK_LOST is set (60_exceptions.md R166). -/
def Obligations.TickRequestWhileBusyIsDropped : Prop :=
  ∀ s : State, s.busyLeft ≠ 0 → exec .tick s = .next { s with err := s.err ||| 0b10000#5 }

/-- Outside BUSY every tick request is performed with all six phases, where MAX_ACCEL is at least 1
(40_engine_fsm.md R78, R95): the countdown (41_filter_commutator.md R101), then the re-dispatch loop
with CAP = 4 from the state it leaves (40_engine_fsm.md R79; what each handler does, the statements
of the eight states say), then phases 3 to 6. -/
def Obligations.TickPerformsItsPhases : Prop :=
  ∀ s : State, s.busyLeft = 0 → s.maxAccel ≠ 0 →
    let s1 : State := { s with fcount := countedDown s }
    ∃ t, exec .tick s = .next t ∧ SameEngine (dispatchLoop s1 4 s1) t ∧ TickFrame s t

/-- The model's own stop, in states no run reaches: BRAKE's division by MAX_ACCEL = 0 (log entry 6;
10_state.md R27). -/
def Obligations.BrakeTickStopsOnZeroMaxAccel : Prop :=
  ∀ s : State, s.busyLeft = 0 → s.fsm = .brake → s.vel ≠ 0 → s.maxAccel = 0 →
    exec .tick s = .fault .divisionByZero

/-- WAIT (40_engine_fsm.md R84): without a trigger the engine stays; with one, the tick goes on in
START with MOVING = 1 and FCOUNT = L. -/
def Obligations.WaitTickRule : Prop :=
  ∀ s : State, s.fsm = .wait → s.busyLeft = 0 →
    (s.jog = .zero → s.target = s.pos → ∃ t, exec .tick s = .next t ∧ TickFrame s t ∧
      t.fsm = .wait ∧ t.pos = s.pos ∧ t.vel = s.vel ∧ t.dir = s.dir ∧ t.moving = s.moving ∧
      t.target = s.target ∧ t.jog = s.jog ∧ t.fcount = countedDown s ∧ t.err = s.err) ∧
    (s.jog ≠ .zero ∨ s.target ≠ s.pos →
      exec .tick s =
        exec .tick { s with moving := true, fcount := 2 ^ s.cfg.log2L, fsm := .start })

/-- START (40_engine_fsm.md R85): the direction, and the state the tick goes on in. -/
def Obligations.StartTickRule : Prop :=
  ∀ s : State, s.fsm = .start → s.busyLeft = 0 →
    let delta := s.target.toInt - s.pos.toInt
    let toward := signDir delta
    let vd := s.vel.toInt * dirInt toward
    let d : Dir :=
      if s.jog ≠ .zero then s.jog
      else if delta ≠ 0 then
        if 0 < vd ∧ (s.maxAccel.toNat : Int) ≤ Int.fdiv (vd * vd) (2 * (delta * dirInt toward)) + 1
        then flipDir toward else toward
      else flipDir (signDir s.vel.toInt)
    (d = .zero → exec .tick s = exec .tick { s with fsm := .standstill }) ∧
    (d ≠ .zero → s.vel.toInt * dirInt d < s.maxSpeed.toNat →
      exec .tick s = exec .tick { s with dir := d, fsm := .acc }) ∧
    (d ≠ .zero → (s.maxSpeed.toNat : Int) ≤ s.vel.toInt * dirInt d →
      exec .tick s = exec .tick { s with dir := d, fsm := .dec })

/-- ACC (40_engine_fsm.md R86, with R82 and R83). -/
def Obligations.AccTickRule : Prop :=
  ∀ s : State, s.fsm = .acc → s.busyLeft = 0 →
    let vn := min (s.vel.toInt * dirInt s.dir + s.maxAccel.toNat) (s.maxSpeed.toNat : Int)
    let x := s.pos.toInt + Int.tdiv (s.vel.toInt + dirInt s.dir * vn) 2
    ∃ t, exec .tick s = .next t ∧ TickFrame s t ∧
      t.vel.toInt = dirInt s.dir * vn ∧ t.pos = BitVec.ofInt 64 x ∧ t.err = errAfterPos s.err x ∧
      t.dir = s.dir ∧ t.moving = s.moving ∧ t.target = s.target ∧ t.jog = s.jog ∧
      t.fcount = countedDown s ∧
      (let vd := t.vel.toInt * dirInt s.dir
       let r := (s.target.toInt - t.pos.toInt) * dirInt s.dir
       t.fsm =
        if s.jog = .zero ∧ 0 < vd ∧ r ≤ 0 then .standstill
        else if s.jog = .zero ∧ 0 < vd ∧ (s.maxAccel.toNat : Int) < Int.fdiv (vd * vd) (2 * r) + 1
        then .decToZero
        else if (s.maxSpeed.toNat : Int) ≤ vn then .constSpeed else .acc)

/-- DEC (40_engine_fsm.md R87, with R82). -/
def Obligations.DecTickRule : Prop :=
  ∀ s : State, s.fsm = .dec → s.busyLeft = 0 →
    let vn := max (s.vel.toInt * dirInt s.dir - s.maxAccel.toNat) (s.maxSpeed.toNat : Int)
    let x := s.pos.toInt + Int.tdiv (s.vel.toInt + dirInt s.dir * vn) 2
    ∃ t, exec .tick s = .next t ∧ TickFrame s t ∧
      t.vel.toInt = dirInt s.dir * vn ∧ t.pos = BitVec.ofInt 64 x ∧ t.err = errAfterPos s.err x ∧
      t.dir = s.dir ∧ t.moving = s.moving ∧ t.target = s.target ∧ t.jog = s.jog ∧
      t.fcount = countedDown s ∧
      t.fsm = if vn ≤ (s.maxSpeed.toNat : Int) then .constSpeed else .dec

/-- CONST_SPEED (40_engine_fsm.md R88, with R82 and R83). -/
def Obligations.ConstSpeedTickRule : Prop :=
  ∀ s : State, s.fsm = .constSpeed → s.busyLeft = 0 →
    let x := s.pos.toInt + Int.tdiv (s.vel.toInt + dirInt s.dir * s.maxSpeed.toNat) 2
    ∃ t, exec .tick s = .next t ∧ TickFrame s t ∧
      t.vel.toInt = dirInt s.dir * s.maxSpeed.toNat ∧ t.pos = BitVec.ofInt 64 x ∧
      t.err = errAfterPos s.err x ∧
      t.dir = s.dir ∧ t.moving = s.moving ∧ t.target = s.target ∧ t.jog = s.jog ∧
      t.fcount = countedDown s ∧
      (let vd := t.vel.toInt * dirInt s.dir
       let r := (s.target.toInt - t.pos.toInt) * dirInt s.dir
       t.fsm =
        if s.jog = .zero ∧ 0 < vd ∧ r ≤ 0 then .standstill
        else if s.jog = .zero ∧ 0 < vd ∧ (s.maxAccel.toNat : Int) < Int.fdiv (vd * vd) (2 * r) + 1
        then .decToZero
        else .constSpeed)

/-- DEC_TO_ZERO (40_engine_fsm.md R89, with R82): the guard goes on in STANDSTILL; past it the engine
decelerates by the law of the rule, and the velocity does not reverse. -/
def Obligations.DecToZeroTickRule : Prop :=
  ∀ s : State, s.fsm = .decToZero → s.busyLeft = 0 →
    let vd := s.vel.toInt * dirInt s.dir
    let r := (s.target.toInt - s.pos.toInt) * dirInt s.dir
    let vn := max (vd - max 1 (Int.fdiv (vd * vd) (2 * r))) 0
    let x := s.pos.toInt + Int.tdiv (s.vel.toInt + dirInt s.dir * vn) 2
    (r ≤ 0 ∨ vd ≤ 0 → exec .tick s = exec .tick { s with fsm := .standstill }) ∧
    (0 < r → 0 < vd → ∃ t, exec .tick s = .next t ∧ TickFrame s t ∧
      t.vel.toInt = dirInt s.dir * vn ∧ vn < vd ∧ t.pos = BitVec.ofInt 64 x ∧
      t.err = errAfterPos s.err x ∧
      t.dir = s.dir ∧ t.moving = s.moving ∧ t.target = s.target ∧ t.jog = s.jog ∧
      t.fcount = countedDown s ∧
      t.fsm =
        if (s.target.toInt - t.pos.toInt) * dirInt s.dir ≤ 0 ∨ vn ≤ 0 then .standstill
        else .decToZero)

/-- STANDSTILL (40_engine_fsm.md R90). -/
def Obligations.StandstillTickRule : Prop :=
  ∀ s : State, s.fsm = .standstill → s.busyLeft = 0 →
    ∃ t, exec .tick s = .next t ∧ TickFrame s t ∧
      t.fsm = .wait ∧ t.pos = s.target ∧ t.vel = 0 ∧ t.dir = .zero ∧ t.moving = false ∧
      t.target = s.target ∧ t.jog = s.jog ∧ t.fcount = countedDown s ∧ t.err = s.err

/-- BRAKE (40_engine_fsm.md R91): the target becomes the stop position along the velocity, jog mode
is cancelled, and the tick goes on in DEC_TO_ZERO, or in STANDSTILL where VEL = 0. -/
def Obligations.BrakeTickRule : Prop :=
  ∀ s : State, s.fsm = .brake → s.busyLeft = 0 →
    (s.vel = 0 → exec .tick s =
      exec .tick { s with target := s.pos, jog := .zero, fsm := .standstill }) ∧
    (s.vel ≠ 0 → s.maxAccel ≠ 0 →
      let x := s.pos.toInt +
        dirInt (signDir s.vel.toInt) *
          Int.fdiv (s.vel.toInt * s.vel.toInt) (2 * (s.maxAccel.toNat : Int))
      exec .tick s = exec .tick { s with
        target := BitVec.ofInt 64 x, err := errAfterPos s.err x, jog := .zero
        dir := signDir s.vel.toInt, fsm := .decToZero })

/-- 40_engine_fsm.md R96: at most 3 handlers run in one tick, from every state: with 3 or more
handler runs allowed the loop's result does not depend on how many are allowed, nor on the snapshot
that only the cap restores. -/
def Obligations.AtMostThreeHandlersRun : Prop :=
  ∀ (s snap snap' : State) (n : Nat), dispatchLoop snap (n + 3) s = dispatchLoop snap' 3 s

/-- 40_engine_fsm.md R98: a tick that leaves FSM = CONST_SPEED leaves VEL = DIR·MAX_SPEED, and one
that leaves FSM = DEC leaves a speed along DIR above MAX_SPEED. -/
def Obligations.CruiseSpeedIsTheLimit : Prop :=
  ∀ s t : State, Inv s → s.busyLeft = 0 → exec .tick s = .next t →
    (t.fsm = .constSpeed → t.vel.toInt = dirInt t.dir * t.maxSpeed.toNat) ∧
    (t.fsm = .dec → (t.maxSpeed.toNat : Int) < t.vel.toInt * dirInt t.dir)

/-- 40_engine_fsm.md R99: with MAX_SPEED = 0 the engine in CONST_SPEED at VEL = 0 stays there for
any number of ticks and never moves. -/
def Obligations.ZeroMaxSpeedHangsInConstSpeed : Prop :=
  ∀ (n : Nat) (s : State), s.cfg.stepClocks = 1 → s.busyLeft = 0 → s.maxSpeed = 0 →
    s.fsm = .constSpeed → s.vel = 0 →
    ∃ t, runOps (List.replicate n .tick) s = .next t ∧ t.fsm = .constSpeed ∧ t.vel = 0 ∧
      t.pos = s.pos ∧ t.moving = s.moving ∧ t.ticks = s.ticks + BitVec.ofNat 32 n

/-- 41_filter_commutator.md R102, for STEP_CLOCKS = 1: from the tick whose STANDSTILL handler clears
MOVING (the first of these `n + 1` ticks) and with no trigger after it, FCOUNT is L - n after n more
ticks, so it reaches 0 exactly L ticks later; and FPOS = TARGET from the L-th of these ticks on. -/
def Obligations.SettlingTakesExactlyLTicks : Prop :=
  ∀ (n : Nat) (s : State), Inv s → s.cfg.stepClocks = 1 → s.fsm = .standstill → s.jog = .zero →
    ∃ t, runOps (List.replicate (n + 1) .tick) s = .next t ∧ t.fsm = .wait ∧ t.moving = false ∧
      t.pos = s.target ∧ t.fcount = 2 ^ s.cfg.log2L - n ∧
      (2 ^ s.cfg.log2L ≤ n + 1 → t.fpos = s.target.toInt)

/-- 40_engine_fsm.md R82: a tick of the mirror image is the mirror image of the tick, for positions
far enough from the ends of the range that no position wraps. -/
def Obligations.TickCommutesWithMirror : Prop :=
  ∀ s s' t t' : State, Mirrored s s' → s.busyLeft = 0 → s'.busyLeft = 0 → s.maxAccel ≠ 0 →
    s.vel ≠ 0x80000000#32 → s.pos.toInt.natAbs < 2 ^ 62 → s.target.toInt.natAbs < 2 ^ 62 →
    exec .tick s = .next t → exec .tick s' = .next t' → Mirrored t t'

/-- 10_state.md R35, R37: no tick reads the interface holding registers or SP_DIRTY: with other
values in them, and with TICKS and BUS_RDATA other, a tick does the same to everything else. -/
def Obligations.TickReadsNoInterfaceRegister : Prop :=
  ∀ (s t : State) (tlo th ph fh rd : Word) (arg : BitVec 64) (dirty : Bool) (k : BitVec 32),
    s.busyLeft = 0 → exec .tick s = .next t →
    exec .tick { s with
      tloHold := tlo, targetHiLatch := th, posHiLatch := ph, fposHiLatch := fh, busRdata := rd
      jumpArg := arg, spDirty := dirty, ticks := k } =
    .next { t with
      tloHold := tlo, targetHiLatch := th, posHiLatch := ph, fposHiLatch := fh, busRdata := rd
      jumpArg := arg, spDirty := dirty && decide (t.fsm ≠ .wait), ticks := k + 1 }

/-! ## Commutator -/

/-- 41_filter_commutator.md R109: every entry of both tables is the integer the formula gives for the
real sine. -/
def Obligations.LutIsTheRoundedRealSine : Prop :=
  ∀ (c : Config) (k : Nat), c.wf = true → k < 2 ^ c.lutBits →
    (lutS c k : Int) =
      ⌊(1 / 2 + Real.sin (2 * Real.pi * k / 2 ^ c.lutBits) / 2) * ((c.range : ℝ) - 1) + 1 / 2⌋ ∧
    (lutT c k : Int) =
      ⌊(1 / 2 - Real.sin (2 * Real.pi * k / 2 ^ c.lutBits) / 2) * ((c.range : ℝ) - 1) + 1 / 2⌋

/-- 41_filter_commutator.md R108, R110, R111: after a performed tick the duty values are the sine,
-sine, cosine and -cosine entries of the angle, and each pair sums to RANGE - 1, or both are RANGE/2
with RANGE even. The sums are the spec's own inference: R110 marks them as derived from R109. -/
def Obligations.DutyPairsAreComplementary : Prop :=
  ∀ s t : State, s.cfg.wf = true → s.busyLeft = 0 → exec .tick s = .next t →
    (let k := t.angle / 2 ^ (s.cfg.p - s.cfg.lutBits)
     let kc := (k + 2 ^ s.cfg.lutBits / 4) % 2 ^ s.cfg.lutBits
     t.duty.d0.toNat = lutS s.cfg k ∧ t.duty.d1.toNat = lutT s.cfg k ∧
     t.duty.d2.toNat = lutS s.cfg kc ∧ t.duty.d3.toNat = lutT s.cfg kc) ∧
    (t.duty.d0.toNat + t.duty.d1.toNat = s.cfg.range - 1 ∨
      (2 * t.duty.d0.toNat = s.cfg.range ∧ 2 * t.duty.d1.toNat = s.cfg.range)) ∧
    (t.duty.d2.toNat + t.duty.d3.toNat = s.cfg.range - 1 ∨
      (2 * t.duty.d2.toNat = s.cfg.range ∧ 2 * t.duty.d3.toNat = s.cfg.range))

/-! ## Whole-machine rules -/

/-- 60_exceptions.md R161: an error bit is cleared only by a host write of 1 to it or by RESET. -/
def Obligations.ErrorBitsAreSticky : Prop :=
  ∀ (i : Instr) (s t : State) (b : ErrBit), exec i s = .next t → s.hasErr b = true →
    t.hasErr b = true ∨ i = .reset ∨
      ∃ data, i = .wrErr data ∧ data.getLsbD (errIndex b) = true

/-- 60_exceptions.md R161 to R166: what sets each error bit: nothing but the events of the table.
POS_OVF: a performed tick whose new POS, or whose stop position in BRAKE, does not fit 64 bits and was
wrapped (40_engine_fsm.md R82, R91). -/
def Obligations.ErrorBitsHaveTheirCausesOnly : Prop :=
  ∀ (i : Instr) (s t : State), exec i s = .next t →
    (t.hasErr .posOvf = true → s.hasErr .posOvf = true ∨ (i = .tick ∧ s.busyLeft = 0 ∧
      (wrapsTo (s.pos.toInt + Int.tdiv (s.vel.toInt + t.vel.toInt) 2) t.pos ∨
        (s.fsm = .brake ∧ s.vel ≠ 0 ∧
          wrapsTo (s.pos.toInt + dirInt (signDir s.vel.toInt) *
            Int.fdiv (s.vel.toInt * s.vel.toInt) (2 * (s.maxAccel.toNat : Int))) t.target)))) ∧
    (t.hasErr .cmdRej = true → s.hasErr .cmdRej = true ∨ (i = .cmdUpdate ∧ s.fsm = .brake) ∨
      (i = .cmdBrake ∧ s.fsm ≠ .acc ∧ s.fsm ≠ .dec ∧ s.fsm ≠ .constSpeed ∧ s.fsm ≠ .decToZero) ∨
      (i = .cmdJump ∧ s.fsm ≠ .wait) ∨ ∃ data, i = .cmdRsvd data) ∧
    (t.hasErr .cfgRej = true → s.hasErr .cfgRej = true ∨
      (∃ data : Word, i = .wrJogDir data ∧ data.toInt ≠ -1 ∧ data.toInt ≠ 0 ∧ data.toInt ≠ 1) ∨
      (∃ data : Word, i = .wrMaxSpeed data ∧ 2 ^ 31 ≤ data.toNat) ∨
      (∃ data : Word, i = .wrMaxAccel data ∧ (data.toNat = 0 ∨ 2 ^ 31 ≤ data.toNat))) ∧
    (t.hasErr .cap = true → s.hasErr .cap = true) ∧
    (t.hasErr .tickLost = true → s.hasErr .tickLost = true ∨ (i = .tick ∧ s.busyLeft ≠ 0))

/-- 40_engine_fsm.md R97: the WAIT trigger of a tick is the only way out of WAIT. -/
def Obligations.OnlyTheTriggerLeavesWait : Prop :=
  ∀ (i : Instr) (s t : State), s.fsm = .wait → exec i s = .next t → t.fsm ≠ .wait →
    i = .tick ∧ s.busyLeft = 0 ∧ (s.jog ≠ .zero ∨ s.target ≠ s.pos)

/-- Who writes what: DUTY changes at a tick and at RESET alone (41_filter_commutator.md R111), POS
and VEL at a tick, JUMP and RESET alone (10_state.md R20, R21), the limits by their own writes and
RESET alone (R26, R27), and no operation writes the build (R40). -/
def Obligations.RegistersHaveTheirWritersOnly : Prop :=
  ∀ (i : Instr) (s t : State), exec i s = .next t →
    (t.duty ≠ s.duty → i = .tick ∨ i = .reset) ∧
    (t.pos ≠ s.pos ∨ t.vel ≠ s.vel → i = .tick ∨ i = .cmdJump ∨ i = .reset) ∧
    (t.maxSpeed ≠ s.maxSpeed → i = .reset ∨ ∃ data, i = .wrMaxSpeed data) ∧
    (t.maxAccel ≠ s.maxAccel → i = .reset ∨ ∃ data, i = .wrMaxAccel data) ∧
    t.cfg = s.cfg

/-! ## Host sequences -/

/-- `JUMP x` (42_host_operations.md R159) at rest: POS, TARGET and FPOS are x, whatever the filter
held, and DUTY keeps its value. -/
def Obligations.JumpSequenceAtRest : Prop :=
  ∀ (s : State) (x : Pos), s.fsm = .wait →
    ∃ t, runOps (lineOps (seqJump x)) s = .next t ∧ t.pos = x ∧ t.target = x ∧ t.vel = 0 ∧
      t.moving = false ∧ t.fpos = x.toInt ∧ t.duty = s.duty ∧ t.fsm = .wait

/-- `MOVE x` (42_host_operations.md R158): TARGET is x; at rest the engine stays in WAIT until the
next tick, in motion it re-plans, but a brake in flight is not cancelled. -/
def Obligations.MoveSequenceSetsTheTarget : Prop :=
  ∀ (s : State) (x : Pos),
    ∃ t, runOps (lineOps (seqMove x)) s = .next t ∧ t.target = x ∧ t.pos = s.pos ∧ t.vel = s.vel ∧
      t.fsm = (if s.fsm = .wait then .wait else if s.fsm = .brake then .brake else .start)
end

