-- ==== Sys2Proof/Laws/Arith.lean ====
section
/-! SUPPORT. What the arithmetic primitives and the error word answer. -/

namespace Sys2Proof.Machine

/-- A 64-bit value is its two halves. -/
@[simp] theorem hi32_append_lo32 (x : BitVec 64) : hi32 x ++ lo32 x = x := by
  unfold hi32 lo32
  refine BitVec.eq_of_getLsbD_eq fun i hi => ?_
  rw [BitVec.getLsbD_append]
  by_cases h : i < 32
  · rw [if_pos h, BitVec.getLsbD_extractLsb', decide_eq_true h, Nat.zero_add, Bool.true_and]
  · rw [if_neg h, BitVec.getLsbD_extractLsb', decide_eq_true (by omega), Bool.true_and,
      show 32 + (i - 32) = i by omega]

/-- The high half of a value made of two halves. -/
@[simp] theorem hi32_s64 (h l : Word) : hi32 (s64 h l) = h := by
  unfold hi32 s64
  refine BitVec.eq_of_getLsbD_eq fun i hi => ?_
  rw [BitVec.getLsbD_extractLsb', BitVec.getLsbD_append, if_neg (by omega),
    show 32 + i - 32 = i by omega, decide_eq_true hi, Bool.true_and]

/-- The low half of a value made of two halves. -/
@[simp] theorem lo32_s64 (h l : Word) : lo32 (s64 h l) = l := by
  unfold lo32 s64
  refine BitVec.eq_of_getLsbD_eq fun i hi => ?_
  rw [BitVec.getLsbD_extractLsb', BitVec.getLsbD_append, Nat.zero_add, if_pos hi,
    decide_eq_true hi, Bool.true_and]

/-- `sign` is 0 at 0 alone (00_scope.md R11). -/
theorem signDir_eq_zero (x : Int) : signDir x = .zero ↔ x = 0 := by
  unfold signDir; split
  · simp; omega
  · split
    · simp; omega
    · simp; omega

/-- `sign` of a negation. -/
theorem signDir_neg (x : Int) : signDir (-x) = flipDir (signDir x) := by
  unfold signDir
  by_cases h : 0 < x
  · rw [if_pos h, if_neg (by omega), if_pos (by omega)]; rfl
  · by_cases h' : x < 0
    · rw [if_neg h, if_pos h', if_pos (by omega)]; rfl
    · rw [if_neg h, if_neg h', if_neg (by omega), if_neg (by omega)]; rfl

/-- The number of a flipped direction. -/
@[simp] theorem dirInt_flipDir (d : Dir) : dirInt (flipDir d) = -dirInt d := by cases d <;> rfl

/-- A flipped direction is 0 where the direction is. -/
@[simp] theorem flipDir_eq_zero (d : Dir) : flipDir d = .zero ↔ d = .zero := by
  cases d <;> simp [flipDir]

/-- The range of VEL (10_state.md R21). -/
theorem vel_range (v : BitVec 32) : -2 ^ 31 ≤ v.toInt ∧ v.toInt < 2 ^ 31 :=
  ⟨by simpa using BitVec.le_toInt v, by simpa using BitVec.toInt_lt (x := v)⟩

/-- A 32-bit code stands for every value that fits. -/
theorem toInt_ofInt_32 (x : Int) (h : -2 ^ 31 ≤ x) (h' : x < 2 ^ 31) :
    (BitVec.ofInt 32 x).toInt = x := by
  rw [BitVec.toInt_ofInt]; apply Int.bmod_eq_of_le <;> omega

/-- `wrap64` keeps a value exactly where it fits 64 signed bits (00_scope.md R10). -/
theorem wrap64_toInt_iff (x : Int) : (wrap64 x).toInt = x ↔ -(2 ^ 63) ≤ x ∧ x < 2 ^ 63 := by
  unfold wrap64
  constructor
  · intro h; rw [← h]
    exact ⟨by simpa using BitVec.le_toInt (BitVec.ofInt 64 x),
      by simpa using BitVec.toInt_lt (x := BitVec.ofInt 64 x)⟩
  · rintro ⟨a, b⟩; rw [BitVec.toInt_ofInt]; apply Int.bmod_eq_of_le <;> omega

/-- A wrapped position sets POS_OVF where it does not fit (60_exceptions.md R162). -/
theorem errSetIf_wrap64 (e : BitVec 5) (x : Int) :
    errSetIf ((wrap64 x).toInt != x) .posOvf e = errAfterPos e x := by
  unfold errSetIf errAfterPos errMask
  by_cases h : -(2 ^ 63) ≤ x ∧ x < 2 ^ 63
  · rw [if_pos h, (wrap64_toInt_iff x).mpr h]; simp
  · rw [if_neg h, if_pos (by simpa using mt (wrap64_toInt_iff x).mp h)]; rfl

/-- Writing a position leaves ERR or sets bit 0. -/
theorem errAfterPos_eq (e : BitVec 5) (x : Int) :
    errAfterPos e x = e ∨ errAfterPos e x = e ||| errMask .posOvf := by
  unfold errAfterPos; split <;> simp [errMask]

/-- One bit more in ERR. -/
theorem getLsbD_or_errMask (e : BitVec 5) (b m : ErrBit) :
    (e ||| errMask m).getLsbD (errIndex b) = (e.getLsbD (errIndex b) || decide (b = m)) := by
  cases b <;> cases m <;> simp [errMask, errIndex]

/-- A setpoint write outside WAIT sets SP_DIRTY (42_host_operations.md R113). -/
theorem noteSetpoint_eq (s : State) :
    s.noteSetpoint = { s with spDirty := s.spDirty || decide (s.fsm ≠ .wait) } := by
  unfold State.noteSetpoint; congr 2; cases s.fsm <;> rfl

/-- The average of R82 lies between 0 and the sum it halves. -/
theorem tdiv_two_bounds (x : Int) :
    (0 ≤ x → 0 ≤ Int.tdiv x 2 ∧ Int.tdiv x 2 ≤ x) ∧
    (x ≤ 0 → x ≤ Int.tdiv x 2 ∧ Int.tdiv x 2 ≤ 0) := by
  constructor
  · intro h; rw [Int.tdiv_eq_ediv_of_nonneg h]; omega
  · intro h
    have : Int.tdiv x 2 = -((-x) / 2) := by
      rw [← Int.tdiv_eq_ediv_of_nonneg (by omega), Int.neg_tdiv, neg_neg]
    rw [this]; omega

end Sys2Proof.Machine
end

