-- ==== Sys2Proof/Laws/State.lean ====
section
/-! SUPPORT. One lemma per field per update of the state, each true by definition. -/

namespace Sys2Proof.Machine

/-! ### drive -/

@[simp] theorem drive_cfg (s : State) (v : Word) : (s.drive v).cfg = s.cfg := rfl
@[simp] theorem drive_fsm (s : State) (v : Word) : (s.drive v).fsm = s.fsm := rfl
@[simp] theorem drive_pos (s : State) (v : Word) : (s.drive v).pos = s.pos := rfl
@[simp] theorem drive_vel (s : State) (v : Word) : (s.drive v).vel = s.vel := rfl
@[simp] theorem drive_dir (s : State) (v : Word) : (s.drive v).dir = s.dir := rfl
@[simp] theorem drive_moving (s : State) (v : Word) : (s.drive v).moving = s.moving := rfl
@[simp] theorem drive_target (s : State) (v : Word) : (s.drive v).target = s.target := rfl
@[simp] theorem drive_jog (s : State) (v : Word) : (s.drive v).jog = s.jog := rfl
@[simp] theorem drive_maxSpeed (s : State) (v : Word) : (s.drive v).maxSpeed = s.maxSpeed := rfl
@[simp] theorem drive_maxAccel (s : State) (v : Word) : (s.drive v).maxAccel = s.maxAccel := rfl
@[simp] theorem drive_buf (s : State) (v : Word) : (s.drive v).buf = s.buf := rfl
@[simp] theorem drive_sum (s : State) (v : Word) : (s.drive v).sum = s.sum := rfl
@[simp] theorem drive_widx (s : State) (v : Word) : (s.drive v).widx = s.widx := rfl
@[simp] theorem drive_fcount (s : State) (v : Word) : (s.drive v).fcount = s.fcount := rfl
@[simp] theorem drive_duty (s : State) (v : Word) : (s.drive v).duty = s.duty := rfl
@[simp] theorem drive_tloHold (s : State) (v : Word) : (s.drive v).tloHold = s.tloHold := rfl
@[simp] theorem drive_targetHiLatch (s : State) (v : Word) : (s.drive v).targetHiLatch = s.targetHiLatch := rfl
@[simp] theorem drive_posHiLatch (s : State) (v : Word) : (s.drive v).posHiLatch = s.posHiLatch := rfl
@[simp] theorem drive_fposHiLatch (s : State) (v : Word) : (s.drive v).fposHiLatch = s.fposHiLatch := rfl
@[simp] theorem drive_jumpArg (s : State) (v : Word) : (s.drive v).jumpArg = s.jumpArg := rfl
@[simp] theorem drive_err (s : State) (v : Word) : (s.drive v).err = s.err := rfl
@[simp] theorem drive_spDirty (s : State) (v : Word) : (s.drive v).spDirty = s.spDirty := rfl
@[simp] theorem drive_ticks (s : State) (v : Word) : (s.drive v).ticks = s.ticks := rfl
@[simp] theorem drive_busyLeft (s : State) (v : Word) : (s.drive v).busyLeft = s.busyLeft := rfl
@[simp] theorem drive_busRdata (s : State) (v : Word) : (s.drive v).busRdata = v := rfl
@[simp] theorem drive_inputs (s : State) (v : Word) : (s.drive v).inputs = s.inputs := rfl
@[simp] theorem drive_freeCount (s : State) (v : Word) : (s.drive v).freeCount = s.freeCount := rfl

/-! ### raise -/

@[simp] theorem raise_cfg (s : State) (e : ErrBit) : (s.raise e).cfg = s.cfg := rfl
@[simp] theorem raise_fsm (s : State) (e : ErrBit) : (s.raise e).fsm = s.fsm := rfl
@[simp] theorem raise_pos (s : State) (e : ErrBit) : (s.raise e).pos = s.pos := rfl
@[simp] theorem raise_vel (s : State) (e : ErrBit) : (s.raise e).vel = s.vel := rfl
@[simp] theorem raise_dir (s : State) (e : ErrBit) : (s.raise e).dir = s.dir := rfl
@[simp] theorem raise_moving (s : State) (e : ErrBit) : (s.raise e).moving = s.moving := rfl
@[simp] theorem raise_target (s : State) (e : ErrBit) : (s.raise e).target = s.target := rfl
@[simp] theorem raise_jog (s : State) (e : ErrBit) : (s.raise e).jog = s.jog := rfl
@[simp] theorem raise_maxSpeed (s : State) (e : ErrBit) : (s.raise e).maxSpeed = s.maxSpeed := rfl
@[simp] theorem raise_maxAccel (s : State) (e : ErrBit) : (s.raise e).maxAccel = s.maxAccel := rfl
@[simp] theorem raise_buf (s : State) (e : ErrBit) : (s.raise e).buf = s.buf := rfl
@[simp] theorem raise_sum (s : State) (e : ErrBit) : (s.raise e).sum = s.sum := rfl
@[simp] theorem raise_widx (s : State) (e : ErrBit) : (s.raise e).widx = s.widx := rfl
@[simp] theorem raise_fcount (s : State) (e : ErrBit) : (s.raise e).fcount = s.fcount := rfl
@[simp] theorem raise_duty (s : State) (e : ErrBit) : (s.raise e).duty = s.duty := rfl
@[simp] theorem raise_tloHold (s : State) (e : ErrBit) : (s.raise e).tloHold = s.tloHold := rfl
@[simp] theorem raise_targetHiLatch (s : State) (e : ErrBit) : (s.raise e).targetHiLatch = s.targetHiLatch := rfl
@[simp] theorem raise_posHiLatch (s : State) (e : ErrBit) : (s.raise e).posHiLatch = s.posHiLatch := rfl
@[simp] theorem raise_fposHiLatch (s : State) (e : ErrBit) : (s.raise e).fposHiLatch = s.fposHiLatch := rfl
@[simp] theorem raise_jumpArg (s : State) (e : ErrBit) : (s.raise e).jumpArg = s.jumpArg := rfl
@[simp] theorem raise_err (s : State) (e : ErrBit) : (s.raise e).err = s.err ||| errMask e := rfl
@[simp] theorem raise_spDirty (s : State) (e : ErrBit) : (s.raise e).spDirty = s.spDirty := rfl
@[simp] theorem raise_ticks (s : State) (e : ErrBit) : (s.raise e).ticks = s.ticks := rfl
@[simp] theorem raise_busyLeft (s : State) (e : ErrBit) : (s.raise e).busyLeft = s.busyLeft := rfl
@[simp] theorem raise_busRdata (s : State) (e : ErrBit) : (s.raise e).busRdata = s.busRdata := rfl
@[simp] theorem raise_inputs (s : State) (e : ErrBit) : (s.raise e).inputs = s.inputs := rfl
@[simp] theorem raise_freeCount (s : State) (e : ErrBit) : (s.raise e).freeCount = s.freeCount := rfl

/-! ### noteSetpoint -/

@[simp] theorem noteSetpoint_cfg (s : State) : (s.noteSetpoint).cfg = s.cfg := rfl
@[simp] theorem noteSetpoint_fsm (s : State) : (s.noteSetpoint).fsm = s.fsm := rfl
@[simp] theorem noteSetpoint_pos (s : State) : (s.noteSetpoint).pos = s.pos := rfl
@[simp] theorem noteSetpoint_vel (s : State) : (s.noteSetpoint).vel = s.vel := rfl
@[simp] theorem noteSetpoint_dir (s : State) : (s.noteSetpoint).dir = s.dir := rfl
@[simp] theorem noteSetpoint_moving (s : State) : (s.noteSetpoint).moving = s.moving := rfl
@[simp] theorem noteSetpoint_target (s : State) : (s.noteSetpoint).target = s.target := rfl
@[simp] theorem noteSetpoint_jog (s : State) : (s.noteSetpoint).jog = s.jog := rfl
@[simp] theorem noteSetpoint_maxSpeed (s : State) : (s.noteSetpoint).maxSpeed = s.maxSpeed := rfl
@[simp] theorem noteSetpoint_maxAccel (s : State) : (s.noteSetpoint).maxAccel = s.maxAccel := rfl
@[simp] theorem noteSetpoint_buf (s : State) : (s.noteSetpoint).buf = s.buf := rfl
@[simp] theorem noteSetpoint_sum (s : State) : (s.noteSetpoint).sum = s.sum := rfl
@[simp] theorem noteSetpoint_widx (s : State) : (s.noteSetpoint).widx = s.widx := rfl
@[simp] theorem noteSetpoint_fcount (s : State) : (s.noteSetpoint).fcount = s.fcount := rfl
@[simp] theorem noteSetpoint_duty (s : State) : (s.noteSetpoint).duty = s.duty := rfl
@[simp] theorem noteSetpoint_tloHold (s : State) : (s.noteSetpoint).tloHold = s.tloHold := rfl
@[simp] theorem noteSetpoint_targetHiLatch (s : State) : (s.noteSetpoint).targetHiLatch = s.targetHiLatch := rfl
@[simp] theorem noteSetpoint_posHiLatch (s : State) : (s.noteSetpoint).posHiLatch = s.posHiLatch := rfl
@[simp] theorem noteSetpoint_fposHiLatch (s : State) : (s.noteSetpoint).fposHiLatch = s.fposHiLatch := rfl
@[simp] theorem noteSetpoint_jumpArg (s : State) : (s.noteSetpoint).jumpArg = s.jumpArg := rfl
@[simp] theorem noteSetpoint_err (s : State) : (s.noteSetpoint).err = s.err := rfl
@[simp] theorem noteSetpoint_spDirty (s : State) : (s.noteSetpoint).spDirty = (s.spDirty || s.fsm != .wait) := rfl
@[simp] theorem noteSetpoint_ticks (s : State) : (s.noteSetpoint).ticks = s.ticks := rfl
@[simp] theorem noteSetpoint_busyLeft (s : State) : (s.noteSetpoint).busyLeft = s.busyLeft := rfl
@[simp] theorem noteSetpoint_busRdata (s : State) : (s.noteSetpoint).busRdata = s.busRdata := rfl
@[simp] theorem noteSetpoint_inputs (s : State) : (s.noteSetpoint).inputs = s.inputs := rfl
@[simp] theorem noteSetpoint_freeCount (s : State) : (s.noteSetpoint).freeCount = s.freeCount := rfl

/-! ### integrate -/

@[simp] theorem integrate_cfg (s : State) (v : Int) : (s.integrate v).cfg = s.cfg := rfl
@[simp] theorem integrate_fsm (s : State) (v : Int) : (s.integrate v).fsm = s.fsm := rfl
@[simp] theorem integrate_pos (s : State) (v : Int) : (s.integrate v).pos = wrap64 (s.integratedPos v) := rfl
@[simp] theorem integrate_vel (s : State) (v : Int) : (s.integrate v).vel = BitVec.ofInt 32 v := rfl
@[simp] theorem integrate_dir (s : State) (v : Int) : (s.integrate v).dir = s.dir := rfl
@[simp] theorem integrate_moving (s : State) (v : Int) : (s.integrate v).moving = s.moving := rfl
@[simp] theorem integrate_target (s : State) (v : Int) : (s.integrate v).target = s.target := rfl
@[simp] theorem integrate_jog (s : State) (v : Int) : (s.integrate v).jog = s.jog := rfl
@[simp] theorem integrate_maxSpeed (s : State) (v : Int) : (s.integrate v).maxSpeed = s.maxSpeed := rfl
@[simp] theorem integrate_maxAccel (s : State) (v : Int) : (s.integrate v).maxAccel = s.maxAccel := rfl
@[simp] theorem integrate_buf (s : State) (v : Int) : (s.integrate v).buf = s.buf := rfl
@[simp] theorem integrate_sum (s : State) (v : Int) : (s.integrate v).sum = s.sum := rfl
@[simp] theorem integrate_widx (s : State) (v : Int) : (s.integrate v).widx = s.widx := rfl
@[simp] theorem integrate_fcount (s : State) (v : Int) : (s.integrate v).fcount = s.fcount := rfl
@[simp] theorem integrate_duty (s : State) (v : Int) : (s.integrate v).duty = s.duty := rfl
@[simp] theorem integrate_tloHold (s : State) (v : Int) : (s.integrate v).tloHold = s.tloHold := rfl
@[simp] theorem integrate_targetHiLatch (s : State) (v : Int) : (s.integrate v).targetHiLatch = s.targetHiLatch := rfl
@[simp] theorem integrate_posHiLatch (s : State) (v : Int) : (s.integrate v).posHiLatch = s.posHiLatch := rfl
@[simp] theorem integrate_fposHiLatch (s : State) (v : Int) : (s.integrate v).fposHiLatch = s.fposHiLatch := rfl
@[simp] theorem integrate_jumpArg (s : State) (v : Int) : (s.integrate v).jumpArg = s.jumpArg := rfl
@[simp] theorem integrate_err (s : State) (v : Int) : (s.integrate v).err = errSetIf ((wrap64 (s.integratedPos v)).toInt != s.integratedPos v) .posOvf s.err := rfl
@[simp] theorem integrate_spDirty (s : State) (v : Int) : (s.integrate v).spDirty = s.spDirty := rfl
@[simp] theorem integrate_ticks (s : State) (v : Int) : (s.integrate v).ticks = s.ticks := rfl
@[simp] theorem integrate_busyLeft (s : State) (v : Int) : (s.integrate v).busyLeft = s.busyLeft := rfl
@[simp] theorem integrate_busRdata (s : State) (v : Int) : (s.integrate v).busRdata = s.busRdata := rfl
@[simp] theorem integrate_inputs (s : State) (v : Int) : (s.integrate v).inputs = s.inputs := rfl
@[simp] theorem integrate_freeCount (s : State) (v : Int) : (s.integrate v).freeCount = s.freeCount := rfl

/-! ### countdown -/

@[simp] theorem countdown_cfg (s : State) : (s.countdown).cfg = s.cfg := rfl
@[simp] theorem countdown_fsm (s : State) : (s.countdown).fsm = s.fsm := rfl
@[simp] theorem countdown_pos (s : State) : (s.countdown).pos = s.pos := rfl
@[simp] theorem countdown_vel (s : State) : (s.countdown).vel = s.vel := rfl
@[simp] theorem countdown_dir (s : State) : (s.countdown).dir = s.dir := rfl
@[simp] theorem countdown_moving (s : State) : (s.countdown).moving = s.moving := rfl
@[simp] theorem countdown_target (s : State) : (s.countdown).target = s.target := rfl
@[simp] theorem countdown_jog (s : State) : (s.countdown).jog = s.jog := rfl
@[simp] theorem countdown_maxSpeed (s : State) : (s.countdown).maxSpeed = s.maxSpeed := rfl
@[simp] theorem countdown_maxAccel (s : State) : (s.countdown).maxAccel = s.maxAccel := rfl
@[simp] theorem countdown_buf (s : State) : (s.countdown).buf = s.buf := rfl
@[simp] theorem countdown_sum (s : State) : (s.countdown).sum = s.sum := rfl
@[simp] theorem countdown_widx (s : State) : (s.countdown).widx = s.widx := rfl
@[simp] theorem countdown_fcount (s : State) : (s.countdown).fcount = (if s.moving = false ∧ 0 < s.fcount then s.fcount - 1 else s.fcount) := rfl
@[simp] theorem countdown_duty (s : State) : (s.countdown).duty = s.duty := rfl
@[simp] theorem countdown_tloHold (s : State) : (s.countdown).tloHold = s.tloHold := rfl
@[simp] theorem countdown_targetHiLatch (s : State) : (s.countdown).targetHiLatch = s.targetHiLatch := rfl
@[simp] theorem countdown_posHiLatch (s : State) : (s.countdown).posHiLatch = s.posHiLatch := rfl
@[simp] theorem countdown_fposHiLatch (s : State) : (s.countdown).fposHiLatch = s.fposHiLatch := rfl
@[simp] theorem countdown_jumpArg (s : State) : (s.countdown).jumpArg = s.jumpArg := rfl
@[simp] theorem countdown_err (s : State) : (s.countdown).err = s.err := rfl
@[simp] theorem countdown_spDirty (s : State) : (s.countdown).spDirty = s.spDirty := rfl
@[simp] theorem countdown_ticks (s : State) : (s.countdown).ticks = s.ticks := rfl
@[simp] theorem countdown_busyLeft (s : State) : (s.countdown).busyLeft = s.busyLeft := rfl
@[simp] theorem countdown_busRdata (s : State) : (s.countdown).busRdata = s.busRdata := rfl
@[simp] theorem countdown_inputs (s : State) : (s.countdown).inputs = s.inputs := rfl
@[simp] theorem countdown_freeCount (s : State) : (s.countdown).freeCount = s.freeCount := rfl

/-! ### push -/

@[simp] theorem push_cfg (s : State) : (s.push).cfg = s.cfg := rfl
@[simp] theorem push_fsm (s : State) : (s.push).fsm = s.fsm := rfl
@[simp] theorem push_pos (s : State) : (s.push).pos = s.pos := rfl
@[simp] theorem push_vel (s : State) : (s.push).vel = s.vel := rfl
@[simp] theorem push_dir (s : State) : (s.push).dir = s.dir := rfl
@[simp] theorem push_moving (s : State) : (s.push).moving = s.moving := rfl
@[simp] theorem push_target (s : State) : (s.push).target = s.target := rfl
@[simp] theorem push_jog (s : State) : (s.push).jog = s.jog := rfl
@[simp] theorem push_maxSpeed (s : State) : (s.push).maxSpeed = s.maxSpeed := rfl
@[simp] theorem push_maxAccel (s : State) : (s.push).maxAccel = s.maxAccel := rfl
@[simp] theorem push_buf (s : State) : (s.push).buf = s.buf.set s.widx s.pos := rfl
@[simp] theorem push_sum (s : State) : (s.push).sum = s.sum + s.pos.toInt - s.bufAt.toInt := rfl
@[simp] theorem push_widx (s : State) : (s.push).widx = (s.widx + 1) % s.cfg.len := rfl
@[simp] theorem push_fcount (s : State) : (s.push).fcount = s.fcount := rfl
@[simp] theorem push_duty (s : State) : (s.push).duty = s.duty := rfl
@[simp] theorem push_tloHold (s : State) : (s.push).tloHold = s.tloHold := rfl
@[simp] theorem push_targetHiLatch (s : State) : (s.push).targetHiLatch = s.targetHiLatch := rfl
@[simp] theorem push_posHiLatch (s : State) : (s.push).posHiLatch = s.posHiLatch := rfl
@[simp] theorem push_fposHiLatch (s : State) : (s.push).fposHiLatch = s.fposHiLatch := rfl
@[simp] theorem push_jumpArg (s : State) : (s.push).jumpArg = s.jumpArg := rfl
@[simp] theorem push_err (s : State) : (s.push).err = s.err := rfl
@[simp] theorem push_spDirty (s : State) : (s.push).spDirty = s.spDirty := rfl
@[simp] theorem push_ticks (s : State) : (s.push).ticks = s.ticks := rfl
@[simp] theorem push_busyLeft (s : State) : (s.push).busyLeft = s.busyLeft := rfl
@[simp] theorem push_busRdata (s : State) : (s.push).busRdata = s.busRdata := rfl
@[simp] theorem push_inputs (s : State) : (s.push).inputs = s.inputs := rfl
@[simp] theorem push_freeCount (s : State) : (s.push).freeCount = s.freeCount := rfl

/-! ### latchDuty -/

@[simp] theorem latchDuty_cfg (s : State) : (s.latchDuty).cfg = s.cfg := rfl
@[simp] theorem latchDuty_fsm (s : State) : (s.latchDuty).fsm = s.fsm := rfl
@[simp] theorem latchDuty_pos (s : State) : (s.latchDuty).pos = s.pos := rfl
@[simp] theorem latchDuty_vel (s : State) : (s.latchDuty).vel = s.vel := rfl
@[simp] theorem latchDuty_dir (s : State) : (s.latchDuty).dir = s.dir := rfl
@[simp] theorem latchDuty_moving (s : State) : (s.latchDuty).moving = s.moving := rfl
@[simp] theorem latchDuty_target (s : State) : (s.latchDuty).target = s.target := rfl
@[simp] theorem latchDuty_jog (s : State) : (s.latchDuty).jog = s.jog := rfl
@[simp] theorem latchDuty_maxSpeed (s : State) : (s.latchDuty).maxSpeed = s.maxSpeed := rfl
@[simp] theorem latchDuty_maxAccel (s : State) : (s.latchDuty).maxAccel = s.maxAccel := rfl
@[simp] theorem latchDuty_buf (s : State) : (s.latchDuty).buf = s.buf := rfl
@[simp] theorem latchDuty_sum (s : State) : (s.latchDuty).sum = s.sum := rfl
@[simp] theorem latchDuty_widx (s : State) : (s.latchDuty).widx = s.widx := rfl
@[simp] theorem latchDuty_fcount (s : State) : (s.latchDuty).fcount = s.fcount := rfl
@[simp] theorem latchDuty_duty (s : State) : (s.latchDuty).duty = commutate s.cfg s.angle := rfl
@[simp] theorem latchDuty_tloHold (s : State) : (s.latchDuty).tloHold = s.tloHold := rfl
@[simp] theorem latchDuty_targetHiLatch (s : State) : (s.latchDuty).targetHiLatch = s.targetHiLatch := rfl
@[simp] theorem latchDuty_posHiLatch (s : State) : (s.latchDuty).posHiLatch = s.posHiLatch := rfl
@[simp] theorem latchDuty_fposHiLatch (s : State) : (s.latchDuty).fposHiLatch = s.fposHiLatch := rfl
@[simp] theorem latchDuty_jumpArg (s : State) : (s.latchDuty).jumpArg = s.jumpArg := rfl
@[simp] theorem latchDuty_err (s : State) : (s.latchDuty).err = s.err := rfl
@[simp] theorem latchDuty_spDirty (s : State) : (s.latchDuty).spDirty = s.spDirty := rfl
@[simp] theorem latchDuty_ticks (s : State) : (s.latchDuty).ticks = s.ticks := rfl
@[simp] theorem latchDuty_busyLeft (s : State) : (s.latchDuty).busyLeft = s.busyLeft := rfl
@[simp] theorem latchDuty_busRdata (s : State) : (s.latchDuty).busRdata = s.busRdata := rfl
@[simp] theorem latchDuty_inputs (s : State) : (s.latchDuty).inputs = s.inputs := rfl
@[simp] theorem latchDuty_freeCount (s : State) : (s.latchDuty).freeCount = s.freeCount := rfl

/-! ### clearDirtyAtRest -/

@[simp] theorem clearDirtyAtRest_cfg (s : State) : (s.clearDirtyAtRest).cfg = s.cfg := rfl
@[simp] theorem clearDirtyAtRest_fsm (s : State) : (s.clearDirtyAtRest).fsm = s.fsm := rfl
@[simp] theorem clearDirtyAtRest_pos (s : State) : (s.clearDirtyAtRest).pos = s.pos := rfl
@[simp] theorem clearDirtyAtRest_vel (s : State) : (s.clearDirtyAtRest).vel = s.vel := rfl
@[simp] theorem clearDirtyAtRest_dir (s : State) : (s.clearDirtyAtRest).dir = s.dir := rfl
@[simp] theorem clearDirtyAtRest_moving (s : State) : (s.clearDirtyAtRest).moving = s.moving := rfl
@[simp] theorem clearDirtyAtRest_target (s : State) : (s.clearDirtyAtRest).target = s.target := rfl
@[simp] theorem clearDirtyAtRest_jog (s : State) : (s.clearDirtyAtRest).jog = s.jog := rfl
@[simp] theorem clearDirtyAtRest_maxSpeed (s : State) : (s.clearDirtyAtRest).maxSpeed = s.maxSpeed := rfl
@[simp] theorem clearDirtyAtRest_maxAccel (s : State) : (s.clearDirtyAtRest).maxAccel = s.maxAccel := rfl
@[simp] theorem clearDirtyAtRest_buf (s : State) : (s.clearDirtyAtRest).buf = s.buf := rfl
@[simp] theorem clearDirtyAtRest_sum (s : State) : (s.clearDirtyAtRest).sum = s.sum := rfl
@[simp] theorem clearDirtyAtRest_widx (s : State) : (s.clearDirtyAtRest).widx = s.widx := rfl
@[simp] theorem clearDirtyAtRest_fcount (s : State) : (s.clearDirtyAtRest).fcount = s.fcount := rfl
@[simp] theorem clearDirtyAtRest_duty (s : State) : (s.clearDirtyAtRest).duty = s.duty := rfl
@[simp] theorem clearDirtyAtRest_tloHold (s : State) : (s.clearDirtyAtRest).tloHold = s.tloHold := rfl
@[simp] theorem clearDirtyAtRest_targetHiLatch (s : State) : (s.clearDirtyAtRest).targetHiLatch = s.targetHiLatch := rfl
@[simp] theorem clearDirtyAtRest_posHiLatch (s : State) : (s.clearDirtyAtRest).posHiLatch = s.posHiLatch := rfl
@[simp] theorem clearDirtyAtRest_fposHiLatch (s : State) : (s.clearDirtyAtRest).fposHiLatch = s.fposHiLatch := rfl
@[simp] theorem clearDirtyAtRest_jumpArg (s : State) : (s.clearDirtyAtRest).jumpArg = s.jumpArg := rfl
@[simp] theorem clearDirtyAtRest_err (s : State) : (s.clearDirtyAtRest).err = s.err := rfl
@[simp] theorem clearDirtyAtRest_spDirty (s : State) : (s.clearDirtyAtRest).spDirty = (s.spDirty && s.fsm != .wait) := rfl
@[simp] theorem clearDirtyAtRest_ticks (s : State) : (s.clearDirtyAtRest).ticks = s.ticks := rfl
@[simp] theorem clearDirtyAtRest_busyLeft (s : State) : (s.clearDirtyAtRest).busyLeft = s.busyLeft := rfl
@[simp] theorem clearDirtyAtRest_busRdata (s : State) : (s.clearDirtyAtRest).busRdata = s.busRdata := rfl
@[simp] theorem clearDirtyAtRest_inputs (s : State) : (s.clearDirtyAtRest).inputs = s.inputs := rfl
@[simp] theorem clearDirtyAtRest_freeCount (s : State) : (s.clearDirtyAtRest).freeCount = s.freeCount := rfl

/-! ### countTick -/

@[simp] theorem countTick_cfg (s : State) : (s.countTick).cfg = s.cfg := rfl
@[simp] theorem countTick_fsm (s : State) : (s.countTick).fsm = s.fsm := rfl
@[simp] theorem countTick_pos (s : State) : (s.countTick).pos = s.pos := rfl
@[simp] theorem countTick_vel (s : State) : (s.countTick).vel = s.vel := rfl
@[simp] theorem countTick_dir (s : State) : (s.countTick).dir = s.dir := rfl
@[simp] theorem countTick_moving (s : State) : (s.countTick).moving = s.moving := rfl
@[simp] theorem countTick_target (s : State) : (s.countTick).target = s.target := rfl
@[simp] theorem countTick_jog (s : State) : (s.countTick).jog = s.jog := rfl
@[simp] theorem countTick_maxSpeed (s : State) : (s.countTick).maxSpeed = s.maxSpeed := rfl
@[simp] theorem countTick_maxAccel (s : State) : (s.countTick).maxAccel = s.maxAccel := rfl
@[simp] theorem countTick_buf (s : State) : (s.countTick).buf = s.buf := rfl
@[simp] theorem countTick_sum (s : State) : (s.countTick).sum = s.sum := rfl
@[simp] theorem countTick_widx (s : State) : (s.countTick).widx = s.widx := rfl
@[simp] theorem countTick_fcount (s : State) : (s.countTick).fcount = s.fcount := rfl
@[simp] theorem countTick_duty (s : State) : (s.countTick).duty = s.duty := rfl
@[simp] theorem countTick_tloHold (s : State) : (s.countTick).tloHold = s.tloHold := rfl
@[simp] theorem countTick_targetHiLatch (s : State) : (s.countTick).targetHiLatch = s.targetHiLatch := rfl
@[simp] theorem countTick_posHiLatch (s : State) : (s.countTick).posHiLatch = s.posHiLatch := rfl
@[simp] theorem countTick_fposHiLatch (s : State) : (s.countTick).fposHiLatch = s.fposHiLatch := rfl
@[simp] theorem countTick_jumpArg (s : State) : (s.countTick).jumpArg = s.jumpArg := rfl
@[simp] theorem countTick_err (s : State) : (s.countTick).err = s.err := rfl
@[simp] theorem countTick_spDirty (s : State) : (s.countTick).spDirty = s.spDirty := rfl
@[simp] theorem countTick_ticks (s : State) : (s.countTick).ticks = s.ticks + 1 := rfl
@[simp] theorem countTick_busyLeft (s : State) : (s.countTick).busyLeft = s.busyLeft := rfl
@[simp] theorem countTick_busRdata (s : State) : (s.countTick).busRdata = s.busRdata := rfl
@[simp] theorem countTick_inputs (s : State) : (s.countTick).inputs = s.inputs := rfl
@[simp] theorem countTick_freeCount (s : State) : (s.countTick).freeCount = s.freeCount := rfl

/-! ### flushFilter -/

@[simp] theorem flushFilter_cfg (s : State) (x : Pos) : (s.flushFilter x).cfg = s.cfg := rfl
@[simp] theorem flushFilter_fsm (s : State) (x : Pos) : (s.flushFilter x).fsm = s.fsm := rfl
@[simp] theorem flushFilter_pos (s : State) (x : Pos) : (s.flushFilter x).pos = s.pos := rfl
@[simp] theorem flushFilter_vel (s : State) (x : Pos) : (s.flushFilter x).vel = s.vel := rfl
@[simp] theorem flushFilter_dir (s : State) (x : Pos) : (s.flushFilter x).dir = s.dir := rfl
@[simp] theorem flushFilter_moving (s : State) (x : Pos) : (s.flushFilter x).moving = s.moving := rfl
@[simp] theorem flushFilter_target (s : State) (x : Pos) : (s.flushFilter x).target = s.target := rfl
@[simp] theorem flushFilter_jog (s : State) (x : Pos) : (s.flushFilter x).jog = s.jog := rfl
@[simp] theorem flushFilter_maxSpeed (s : State) (x : Pos) : (s.flushFilter x).maxSpeed = s.maxSpeed := rfl
@[simp] theorem flushFilter_maxAccel (s : State) (x : Pos) : (s.flushFilter x).maxAccel = s.maxAccel := rfl
@[simp] theorem flushFilter_buf (s : State) (x : Pos) : (s.flushFilter x).buf = List.replicate s.cfg.len x := rfl
@[simp] theorem flushFilter_sum (s : State) (x : Pos) : (s.flushFilter x).sum = (s.cfg.len : Int) * x.toInt := rfl
@[simp] theorem flushFilter_widx (s : State) (x : Pos) : (s.flushFilter x).widx = 0 := rfl
@[simp] theorem flushFilter_fcount (s : State) (x : Pos) : (s.flushFilter x).fcount = s.fcount := rfl
@[simp] theorem flushFilter_duty (s : State) (x : Pos) : (s.flushFilter x).duty = s.duty := rfl
@[simp] theorem flushFilter_tloHold (s : State) (x : Pos) : (s.flushFilter x).tloHold = s.tloHold := rfl
@[simp] theorem flushFilter_targetHiLatch (s : State) (x : Pos) : (s.flushFilter x).targetHiLatch = s.targetHiLatch := rfl
@[simp] theorem flushFilter_posHiLatch (s : State) (x : Pos) : (s.flushFilter x).posHiLatch = s.posHiLatch := rfl
@[simp] theorem flushFilter_fposHiLatch (s : State) (x : Pos) : (s.flushFilter x).fposHiLatch = s.fposHiLatch := rfl
@[simp] theorem flushFilter_jumpArg (s : State) (x : Pos) : (s.flushFilter x).jumpArg = s.jumpArg := rfl
@[simp] theorem flushFilter_err (s : State) (x : Pos) : (s.flushFilter x).err = s.err := rfl
@[simp] theorem flushFilter_spDirty (s : State) (x : Pos) : (s.flushFilter x).spDirty = s.spDirty := rfl
@[simp] theorem flushFilter_ticks (s : State) (x : Pos) : (s.flushFilter x).ticks = s.ticks := rfl
@[simp] theorem flushFilter_busyLeft (s : State) (x : Pos) : (s.flushFilter x).busyLeft = s.busyLeft := rfl
@[simp] theorem flushFilter_busRdata (s : State) (x : Pos) : (s.flushFilter x).busRdata = s.busRdata := rfl
@[simp] theorem flushFilter_inputs (s : State) (x : Pos) : (s.flushFilter x).inputs = s.inputs := rfl
@[simp] theorem flushFilter_freeCount (s : State) (x : Pos) : (s.flushFilter x).freeCount = s.freeCount := rfl

/-! ### enterEdge -/

@[simp] theorem enterEdge_cfg (s : State) : (s.enterEdge).cfg = s.cfg := rfl
@[simp] theorem enterEdge_fsm (s : State) : (s.enterEdge).fsm = s.fsm := rfl
@[simp] theorem enterEdge_pos (s : State) : (s.enterEdge).pos = s.pos := rfl
@[simp] theorem enterEdge_vel (s : State) : (s.enterEdge).vel = s.vel := rfl
@[simp] theorem enterEdge_dir (s : State) : (s.enterEdge).dir = s.dir := rfl
@[simp] theorem enterEdge_moving (s : State) : (s.enterEdge).moving = s.moving := rfl
@[simp] theorem enterEdge_target (s : State) : (s.enterEdge).target = s.target := rfl
@[simp] theorem enterEdge_jog (s : State) : (s.enterEdge).jog = s.jog := rfl
@[simp] theorem enterEdge_maxSpeed (s : State) : (s.enterEdge).maxSpeed = s.maxSpeed := rfl
@[simp] theorem enterEdge_maxAccel (s : State) : (s.enterEdge).maxAccel = s.maxAccel := rfl
@[simp] theorem enterEdge_buf (s : State) : (s.enterEdge).buf = s.buf := rfl
@[simp] theorem enterEdge_sum (s : State) : (s.enterEdge).sum = s.sum := rfl
@[simp] theorem enterEdge_widx (s : State) : (s.enterEdge).widx = s.widx := rfl
@[simp] theorem enterEdge_fcount (s : State) : (s.enterEdge).fcount = s.fcount := rfl
@[simp] theorem enterEdge_duty (s : State) : (s.enterEdge).duty = s.duty := rfl
@[simp] theorem enterEdge_tloHold (s : State) : (s.enterEdge).tloHold = s.tloHold := rfl
@[simp] theorem enterEdge_targetHiLatch (s : State) : (s.enterEdge).targetHiLatch = s.targetHiLatch := rfl
@[simp] theorem enterEdge_posHiLatch (s : State) : (s.enterEdge).posHiLatch = s.posHiLatch := rfl
@[simp] theorem enterEdge_fposHiLatch (s : State) : (s.enterEdge).fposHiLatch = s.fposHiLatch := rfl
@[simp] theorem enterEdge_jumpArg (s : State) : (s.enterEdge).jumpArg = s.jumpArg := rfl
@[simp] theorem enterEdge_err (s : State) : (s.enterEdge).err = s.err := rfl
@[simp] theorem enterEdge_spDirty (s : State) : (s.enterEdge).spDirty = s.spDirty := rfl
@[simp] theorem enterEdge_ticks (s : State) : (s.enterEdge).ticks = s.ticks := rfl
@[simp] theorem enterEdge_busyLeft (s : State) : (s.enterEdge).busyLeft = s.busyLeft := rfl
@[simp] theorem enterEdge_busRdata (s : State) : (s.enterEdge).busRdata = Config.freeRdata s.freeCount := rfl
@[simp] theorem enterEdge_inputs (s : State) : (s.enterEdge).inputs = s.inputs.tail := rfl
@[simp] theorem enterEdge_freeCount (s : State) : (s.enterEdge).freeCount = s.freeCount + 1 := rfl

/-! ### clockBusy -/

@[simp] theorem clockBusy_cfg (s : State) (a : Bool) : (s.clockBusy a).cfg = s.cfg := rfl
@[simp] theorem clockBusy_fsm (s : State) (a : Bool) : (s.clockBusy a).fsm = s.fsm := rfl
@[simp] theorem clockBusy_pos (s : State) (a : Bool) : (s.clockBusy a).pos = s.pos := rfl
@[simp] theorem clockBusy_vel (s : State) (a : Bool) : (s.clockBusy a).vel = s.vel := rfl
@[simp] theorem clockBusy_dir (s : State) (a : Bool) : (s.clockBusy a).dir = s.dir := rfl
@[simp] theorem clockBusy_moving (s : State) (a : Bool) : (s.clockBusy a).moving = s.moving := rfl
@[simp] theorem clockBusy_target (s : State) (a : Bool) : (s.clockBusy a).target = s.target := rfl
@[simp] theorem clockBusy_jog (s : State) (a : Bool) : (s.clockBusy a).jog = s.jog := rfl
@[simp] theorem clockBusy_maxSpeed (s : State) (a : Bool) : (s.clockBusy a).maxSpeed = s.maxSpeed := rfl
@[simp] theorem clockBusy_maxAccel (s : State) (a : Bool) : (s.clockBusy a).maxAccel = s.maxAccel := rfl
@[simp] theorem clockBusy_buf (s : State) (a : Bool) : (s.clockBusy a).buf = s.buf := rfl
@[simp] theorem clockBusy_sum (s : State) (a : Bool) : (s.clockBusy a).sum = s.sum := rfl
@[simp] theorem clockBusy_widx (s : State) (a : Bool) : (s.clockBusy a).widx = s.widx := rfl
@[simp] theorem clockBusy_fcount (s : State) (a : Bool) : (s.clockBusy a).fcount = s.fcount := rfl
@[simp] theorem clockBusy_duty (s : State) (a : Bool) : (s.clockBusy a).duty = s.duty := rfl
@[simp] theorem clockBusy_tloHold (s : State) (a : Bool) : (s.clockBusy a).tloHold = s.tloHold := rfl
@[simp] theorem clockBusy_targetHiLatch (s : State) (a : Bool) : (s.clockBusy a).targetHiLatch = s.targetHiLatch := rfl
@[simp] theorem clockBusy_posHiLatch (s : State) (a : Bool) : (s.clockBusy a).posHiLatch = s.posHiLatch := rfl
@[simp] theorem clockBusy_fposHiLatch (s : State) (a : Bool) : (s.clockBusy a).fposHiLatch = s.fposHiLatch := rfl
@[simp] theorem clockBusy_jumpArg (s : State) (a : Bool) : (s.clockBusy a).jumpArg = s.jumpArg := rfl
@[simp] theorem clockBusy_err (s : State) (a : Bool) : (s.clockBusy a).err = s.err := rfl
@[simp] theorem clockBusy_spDirty (s : State) (a : Bool) : (s.clockBusy a).spDirty = s.spDirty := rfl
@[simp] theorem clockBusy_ticks (s : State) (a : Bool) : (s.clockBusy a).ticks = s.ticks := rfl
@[simp] theorem clockBusy_busyLeft (s : State) (a : Bool) : (s.clockBusy a).busyLeft = (if a then s.busyLeft else s.busyLeft - 1) := rfl
@[simp] theorem clockBusy_busRdata (s : State) (a : Bool) : (s.clockBusy a).busRdata = s.busRdata := rfl
@[simp] theorem clockBusy_inputs (s : State) (a : Bool) : (s.clockBusy a).inputs = s.inputs := rfl
@[simp] theorem clockBusy_freeCount (s : State) (a : Bool) : (s.clockBusy a).freeCount = s.freeCount := rfl

/-! ### present -/

@[simp] theorem present_cfg (s : State) (e : Edge) : (s.present e).cfg = s.cfg := rfl
@[simp] theorem present_fsm (s : State) (e : Edge) : (s.present e).fsm = s.fsm := rfl
@[simp] theorem present_pos (s : State) (e : Edge) : (s.present e).pos = s.pos := rfl
@[simp] theorem present_vel (s : State) (e : Edge) : (s.present e).vel = s.vel := rfl
@[simp] theorem present_dir (s : State) (e : Edge) : (s.present e).dir = s.dir := rfl
@[simp] theorem present_moving (s : State) (e : Edge) : (s.present e).moving = s.moving := rfl
@[simp] theorem present_target (s : State) (e : Edge) : (s.present e).target = s.target := rfl
@[simp] theorem present_jog (s : State) (e : Edge) : (s.present e).jog = s.jog := rfl
@[simp] theorem present_maxSpeed (s : State) (e : Edge) : (s.present e).maxSpeed = s.maxSpeed := rfl
@[simp] theorem present_maxAccel (s : State) (e : Edge) : (s.present e).maxAccel = s.maxAccel := rfl
@[simp] theorem present_buf (s : State) (e : Edge) : (s.present e).buf = s.buf := rfl
@[simp] theorem present_sum (s : State) (e : Edge) : (s.present e).sum = s.sum := rfl
@[simp] theorem present_widx (s : State) (e : Edge) : (s.present e).widx = s.widx := rfl
@[simp] theorem present_fcount (s : State) (e : Edge) : (s.present e).fcount = s.fcount := rfl
@[simp] theorem present_duty (s : State) (e : Edge) : (s.present e).duty = s.duty := rfl
@[simp] theorem present_tloHold (s : State) (e : Edge) : (s.present e).tloHold = s.tloHold := rfl
@[simp] theorem present_targetHiLatch (s : State) (e : Edge) : (s.present e).targetHiLatch = s.targetHiLatch := rfl
@[simp] theorem present_posHiLatch (s : State) (e : Edge) : (s.present e).posHiLatch = s.posHiLatch := rfl
@[simp] theorem present_fposHiLatch (s : State) (e : Edge) : (s.present e).fposHiLatch = s.fposHiLatch := rfl
@[simp] theorem present_jumpArg (s : State) (e : Edge) : (s.present e).jumpArg = s.jumpArg := rfl
@[simp] theorem present_err (s : State) (e : Edge) : (s.present e).err = s.err := rfl
@[simp] theorem present_spDirty (s : State) (e : Edge) : (s.present e).spDirty = s.spDirty := rfl
@[simp] theorem present_ticks (s : State) (e : Edge) : (s.present e).ticks = s.ticks := rfl
@[simp] theorem present_busyLeft (s : State) (e : Edge) : (s.present e).busyLeft = s.busyLeft := rfl
@[simp] theorem present_busRdata (s : State) (e : Edge) : (s.present e).busRdata = s.busRdata := rfl
@[simp] theorem present_inputs (s : State) (e : Edge) : (s.present e).inputs = e :: s.inputs := rfl
@[simp] theorem present_freeCount (s : State) (e : Edge) : (s.present e).freeCount = s.freeCount := rfl

end Sys2Proof.Machine
end

