-- ==== Sys2Proof/Laws/Engine.lean ====
section
/-! SUPPORT. What integration, the handlers and the re-dispatch loop can do, said once. -/

namespace Sys2Proof.Machine

/-- All that `integrate` does (40_engine_fsm.md R82). -/
theorem integrate_eq (s : State) (v : Int) :
    s.integrate v = { s with
      vel := BitVec.ofInt 32 v
      pos := BitVec.ofInt 64 (s.pos.toInt + Int.tdiv (s.vel.toInt + v) 2)
      err := errAfterPos s.err (s.pos.toInt + Int.tdiv (s.vel.toInt + v) 2) } := by
  unfold State.integrate; rw [errSetIf_wrap64]; rfl

/-- The exits of the finite mode, and what stays where there is none (40_engine_fsm.md R83). -/
theorem finiteExit_getD (s : State) (f : Fsm) :
    s.finiteExit.getD f =
      if s.jog = .zero ∧ 0 < s.vd ∧ s.remaining ≤ 0 then .standstill
      else if s.jog = .zero ∧ 0 < s.vd ∧ s.accelLimit < brakeAcc s.vd s.remaining then .decToZero
      else f := by
  unfold State.finiteExit State.finiteChecks
  by_cases hj : s.jog = .zero <;> by_cases h1 : 0 < s.vd <;> by_cases h2 : s.remaining ≤ 0 <;>
    by_cases h3 : s.accelLimit < brakeAcc s.vd s.remaining <;> simp [hj, h1, h2, h3]

/-- Every transition that continues in the same tick (40_engine_fsm.md R79). -/
theorem handle_again (s s' : State) (h : handle s = .again s') :
    (s.fsm = .wait ∧ s'.fsm = .start) ∨
    (s.fsm = .start ∧ (s'.fsm = .standstill ∨ s'.fsm = .acc ∨ s'.fsm = .dec)) ∨
    (s.fsm = .brake ∧ (s'.fsm = .standstill ∨ s'.fsm = .decToZero)) ∨
    (s.fsm = .decToZero ∧ s'.fsm = .standstill) := by
  unfold handle at h
  split at h <;> rename_i hf
  · unfold handleWait at h; split at h <;> cases h; exact .inl ⟨hf, rfl⟩
  · unfold handleStart at h; split at h
    · cases h; exact .inr (.inl ⟨hf, .inl rfl⟩)
    · split at h <;> cases h
      · exact .inr (.inl ⟨hf, .inr (.inl rfl)⟩)
      · exact .inr (.inl ⟨hf, .inr (.inr rfl)⟩)
  · cases h
  · cases h
  · cases h
  · unfold handleDecToZero at h; split at h
    · cases h; exact .inr (.inr (.inr ⟨hf, rfl⟩))
    · cases h
  · cases h
  · unfold handleBrake at h; split at h <;> cases h
    · exact .inr (.inr (.inl ⟨hf, .inl rfl⟩))
    · exact .inr (.inr (.inl ⟨hf, .inr rfl⟩))

/-- The handlers of these states always end the FSM phase (40_engine_fsm.md R79). -/
theorem handle_done (s : State)
    (h : s.fsm = .acc ∨ s.fsm = .dec ∨ s.fsm = .constSpeed ∨ s.fsm = .standstill) :
    ∃ t, handle s = .done t := by
  cases hh : handle s with
  | done t => exact ⟨t, rfl⟩
  | again t =>
    have := handle_again s t hh
    rcases h with h | h | h | h <;> simp [h] at this

/-- A handler that ends the FSM phase gives its result. -/
theorem runFsm_of_done (s t : State) (h : handle s = .done t) : s.runFsm = t := by
  simp [State.runFsm, Config.cap, dispatchLoop, h]

/-- After a handler that continues, the FSM phase is that of the state it left. -/
theorem runFsm_of_again (s t : State) (h : handle s = .again t) : s.runFsm = t.runFsm := by
  have i1 := handle_again s t h
  cases h2 : handle t with
  | done u => simp [State.runFsm, Config.cap, dispatchLoop, h, h2]
  | again u =>
    have i2 := handle_again t u h2
    obtain ⟨v, hv⟩ := handle_done u (by
      rcases i1 with ⟨-, i⟩ | ⟨-, i | i | i⟩ | ⟨-, i | i⟩ | ⟨-, i⟩ <;> simp [i] at i2 <;> tauto)
    simp [State.runFsm, Config.cap, dispatchLoop, h, h2, hv]

/-- The FSM phase ends with a handler that answers `done`, in a state that has every property that
the handlers that continue keep. -/
theorem runFsm_ends (P : State → Prop) (keeps : ∀ s t, P s → handle s = .again t → P t)
    (s : State) (h : P s) : ∃ u, P u ∧ handle u = .done s.runFsm := by
  cases h1 : handle s with
  | done t => exact ⟨s, h, by rw [runFsm_of_done _ _ h1, h1]⟩
  | again a =>
    have i1 := handle_again s a h1
    have pa := keeps s a h h1
    rw [runFsm_of_again _ _ h1]
    cases h2 : handle a with
    | done t => exact ⟨a, pa, by rw [runFsm_of_done _ _ h2, h2]⟩
    | again b =>
      have i2 := handle_again a b h2
      obtain ⟨t, ht⟩ := handle_done b (by
        rcases i1 with ⟨-, i⟩ | ⟨-, i | i | i⟩ | ⟨-, i | i⟩ | ⟨-, i⟩ <;> simp [i] at i2 <;> tauto)
      exact ⟨b, keeps a b pa h2, by rw [runFsm_of_again _ _ h2, runFsm_of_done _ _ ht, ht]⟩

/-- What the FSM phase leaves unchanged (40_engine_fsm.md R78, "Written"). -/
structure SameOutsideEngine (s t : State) : Prop where
  cfg : t.cfg = s.cfg
  maxSpeed : t.maxSpeed = s.maxSpeed
  maxAccel : t.maxAccel = s.maxAccel
  buf : t.buf = s.buf
  sum : t.sum = s.sum
  widx : t.widx = s.widx
  duty : t.duty = s.duty
  tloHold : t.tloHold = s.tloHold
  targetHiLatch : t.targetHiLatch = s.targetHiLatch
  posHiLatch : t.posHiLatch = s.posHiLatch
  fposHiLatch : t.fposHiLatch = s.fposHiLatch
  jumpArg : t.jumpArg = s.jumpArg
  spDirty : t.spDirty = s.spDirty
  ticks : t.ticks = s.ticks
  busyLeft : t.busyLeft = s.busyLeft
  busRdata : t.busRdata = s.busRdata
  inputs : t.inputs = s.inputs
  freeCount : t.freeCount = s.freeCount

/-- Two phases, one after the other. -/
theorem SameOutsideEngine.trans {s t u : State} (a : SameOutsideEngine s t)
    (b : SameOutsideEngine t u) : SameOutsideEngine s u :=
  ⟨b.cfg.trans a.cfg, b.maxSpeed.trans a.maxSpeed, b.maxAccel.trans a.maxAccel, b.buf.trans a.buf,
    b.sum.trans a.sum, b.widx.trans a.widx, b.duty.trans a.duty, b.tloHold.trans a.tloHold,
    b.targetHiLatch.trans a.targetHiLatch, b.posHiLatch.trans a.posHiLatch,
    b.fposHiLatch.trans a.fposHiLatch, b.jumpArg.trans a.jumpArg, b.spDirty.trans a.spDirty,
    b.ticks.trans a.ticks, b.busyLeft.trans a.busyLeft, b.busRdata.trans a.busRdata,
    b.inputs.trans a.inputs, b.freeCount.trans a.freeCount⟩

/-- The state a handler leaves, however it ends. -/
def HandlerEnd.state : HandlerEnd → State
  | .again s => s
  | .done s => s

/-- No handler writes outside the engine. -/
theorem handle_frame (s : State) : SameOutsideEngine s (handle s).state := by
  unfold handle
  split
  · unfold handleWait; split <;> constructor <;> rfl
  · unfold handleStart; split
    · constructor <;> rfl
    · split <;> constructor <;> rfl
  · constructor <;> rfl
  · constructor <;> rfl
  · constructor <;> rfl
  · unfold handleDecToZero; split <;> constructor <;> rfl
  · constructor <;> rfl
  · unfold handleBrake; split <;> constructor <;> rfl

/-- The FSM phase does not write outside the engine. -/
theorem runFsm_frame (s : State) : SameOutsideEngine s s.runFsm := by
  obtain ⟨u, hu, hd⟩ := runFsm_ends (SameOutsideEngine s) (fun a b ha h => by
    have := handle_frame a; rw [h] at this; exact ha.trans this) s (by constructor <;> rfl)
  have := handle_frame u; rw [hd] at this; exact hu.trans this

/-- A handler leaves ERR or sets POS_OVF. -/
theorem handle_err (s : State) :
    (handle s).state.err = s.err ∨ (handle s).state.err = s.err ||| errMask .posOvf := by
  unfold handle
  split
  · unfold handleWait; split <;> exact .inl rfl
  · unfold handleStart; split
    · exact .inl rfl
    · split <;> exact .inl rfl
  · simp only [handleAcc, HandlerEnd.state, State.accIntegrated, integrate_eq]
    exact errAfterPos_eq _ _
  · simp only [handleDec, HandlerEnd.state, integrate_eq]; exact errAfterPos_eq _ _
  · simp only [handleConstSpeed, HandlerEnd.state, State.cruiseIntegrated, integrate_eq]
    exact errAfterPos_eq _ _
  · unfold handleDecToZero; split
    · exact .inl rfl
    · simp only [HandlerEnd.state, State.stopIntegrated, integrate_eq]; exact errAfterPos_eq _ _
  · exact .inl rfl
  · unfold handleBrake; split
    · exact .inl rfl
    · simp only [HandlerEnd.state, errSetIf_wrap64]; exact errAfterPos_eq _ _

end Sys2Proof.Machine
end

