-- ==== Sys2Proof/Laws/Lut.lean ====
section
/-! SUPPORT. What the comparison of a cosine and the search of the LUT answer, over the reals. -/

namespace Sys2Proof.Machine

/-- When two integers are in rising order. -/
theorem orderInt_lt (a b : Int) : orderInt a b = .lt ↔ a < b := by
  unfold orderInt; split
  · simp [*]
  · split <;> simp <;> omega

/-- When two integers are in falling order. -/
theorem orderInt_gt (a b : Int) : orderInt a b = .gt ↔ b < a := by
  unfold orderInt; split
  · simp; omega
  · split <;> simp <;> omega

/-- The angle π j / 2^m. -/
noncomputable def dyadicAngle (m j : Nat) : ℝ := Real.pi * j / 2 ^ m

/-- `compareCos` answers how the real cosine stands to p / q. -/
theorem compareCos_spec (m : Nat) : ∀ (j : Nat) (p q : Int), j ≤ 2 ^ m → 0 < q →
    (compareCos m j p q = .lt ↔ Real.cos (dyadicAngle m j) * q < p) ∧
    (compareCos m j p q = .gt ↔ p < Real.cos (dyadicAngle m j) * q) := by
  induction m with
  | zero =>
    intro j p q hj hq
    have : j = 0 ∨ j = 1 := by simp at hj; omega
    rcases this with rfl | rfl
    · simp [compareCos, dyadicAngle, orderInt_lt, orderInt_gt]
    · have : ¬ (1 = 0) := by decide
      rw [compareCos, if_neg this, orderInt_lt, orderInt_gt]; simp [dyadicAngle]; norm_cast
  | succ m ih =>
    intro j p q hj hq
    have hq' : (0:ℝ) < q := by exact_mod_cast hq
    have hp2 : (0:ℝ) < 2 ^ m := by positivity
    have pi := Real.pi_pos
    have half : dyadicAngle (m+1) (2^m) = Real.pi / 2 := by unfold dyadicAngle; push_cast; rw [pow_succ]; field_simp
    unfold compareCos
    by_cases h1 : j = 2 ^ m
    · rw [if_pos h1, h1, half, orderInt_lt, orderInt_gt, Real.cos_pi_div_two]; simp
    · rw [if_neg h1]
      by_cases h2 : j < 2 ^ m
      · rw [if_pos h2]
        have h2' : (j:ℝ) < 2 ^ m := by exact_mod_cast h2
        have a0 : 0 ≤ dyadicAngle (m+1) j := by unfold dyadicAngle; positivity
        have a1 : dyadicAngle (m+1) j < Real.pi / 2 := by
          rw [← half]; unfold dyadicAngle; push_cast; gcongr
        have c0 : 0 < Real.cos (dyadicAngle (m+1) j) := Real.cos_pos_of_mem_Ioo ⟨by linarith, a1⟩
        by_cases hp : p ≤ 0
        · rw [if_pos hp]
          have hp' : (p:ℝ) ≤ 0 := by exact_mod_cast hp
          have : 0 < Real.cos (dyadicAngle (m+1) j) * q := by positivity
          constructor
          · simp; linarith
          · simp; linarith
        · rw [if_neg hp]
          have hp' : (0:ℝ) < p := by exact_mod_cast (not_le.mp hp)
          have db : dyadicAngle m j = 2 * dyadicAngle (m+1) j := by unfold dyadicAngle; rw [pow_succ]; field_simp
          have := ih j (2*p*p-q*q) (q*q) (le_of_lt h2) (by positivity)
          rw [db, Real.cos_two_mul] at this
          generalize Real.cos (dyadicAngle (m+1) j) = c at *
          push_cast at this
          rw [this.1, this.2]
          have e : (2 * c^2 - 1) * ((q:ℝ) * q) = 2 * ((c * q) * (c * q)) - q * q := by ring
          have x0 : 0 < c * q := by positivity
          have e2 : 2 * (p:ℝ) * p = 2 * (p * p) := by ring
          rw [e, e2]
          generalize c * (q:ℝ) = x at *
          have i1 := mul_self_lt_mul_self_iff (a := x) (b := p) x0.le hp'.le
          have i2 := mul_self_lt_mul_self_iff (a := (p:ℝ)) (b := x) hp'.le x0.le
          rw [i1, i2]
          constructor <;> constructor <;> intro h <;> linarith
      · rw [if_neg h2]
        have h2' : (2:ℝ)^m < j := by exact_mod_cast (by omega : 2^m < j)
        have h3' : (j:ℝ) ≤ 2 ^ (m+1) := by exact_mod_cast hj
        have a0 : Real.pi / 2 < dyadicAngle (m+1) j := by rw [← half]; unfold dyadicAngle; push_cast; gcongr
        have a1 : dyadicAngle (m+1) j ≤ Real.pi := by
          unfold dyadicAngle; rw [div_le_iff₀ (by positivity)]; gcongr
        have c0 : Real.cos (dyadicAngle (m+1) j) < 0 := Real.cos_neg_of_pi_div_two_lt_of_lt a0 (by linarith)
        by_cases hp : 0 ≤ p
        · rw [if_pos hp]
          have hp' : (0:ℝ) ≤ p := by exact_mod_cast hp
          have : Real.cos (dyadicAngle (m+1) j) * q < 0 := by nlinarith
          constructor
          · simp; linarith
          · simp; linarith
        · rw [if_neg hp]
          have hp' : (p:ℝ) < 0 := by exact_mod_cast (not_le.mp hp)
          have hjj : 2^(m+1) - j ≤ 2^m := by rw [pow_succ] at *; omega
          have db : dyadicAngle m (2^(m+1) - j) = 2 * Real.pi - 2 * dyadicAngle (m+1) j := by
            unfold dyadicAngle; rw [Nat.cast_sub hj]; push_cast; rw [pow_succ]; field_simp
          have := ih (2^(m+1) - j) (2*p*p-q*q) (q*q) hjj (by positivity)
          rw [db, Real.cos_two_pi_sub, Real.cos_two_mul] at this
          generalize Real.cos (dyadicAngle (m+1) j) = c at *
          push_cast at this
          have s1 : ∀ o : Ordering, o.swap = .lt ↔ o = .gt := by decide
          have s2 : ∀ o : Ordering, o.swap = .gt ↔ o = .lt := by decide
          rw [s1, s2, this.1, this.2]
          have e : (2 * c^2 - 1) * ((q:ℝ) * q) = 2 * ((-(c * q)) * (-(c * q))) - q * q := by ring
          have x0 : c * q < 0 := by nlinarith
          have e2 : 2 * (p:ℝ) * p = 2 * (-p * -p) := by ring
          rw [e, e2]
          generalize c * (q:ℝ) = x at *
          have i1 := mul_self_lt_mul_self_iff (a := -x) (b := -p) (by linarith) (by linarith)
          have i2 := mul_self_lt_mul_self_iff (a := -(p:ℝ)) (b := -x) (by linarith) (by linarith)
          rw [neg_lt_neg_iff] at i1 i2
          constructor
          · rw [i2]; constructor <;> intro h <;> linarith
          · rw [i1]; constructor <;> intro h <;> linarith

/-- The search finds the greatest value the test allows, where the test allows an initial part of
the positive numbers. -/
theorem greatest_eq (ok : Nat → Bool) (v : Nat) (hv : ∀ n, 0 < n → (ok n = true ↔ n ≤ v)) :
    ∀ i n, n ≤ v → v < n + 2 ^ i → greatest ok i n = v := by
  intro i; induction i with
  | zero => intro n h1 h2; simp [greatest]; simp at h2; omega
  | succ i ih =>
    intro n h1 h2
    have hp : 0 < 2 ^ i := Nat.two_pow_pos i
    simp only [greatest]
    by_cases h : n + 2 ^ i ≤ v
    · rw [if_pos ((hv _ (by omega)).2 h)]; apply ih _ h; rw [pow_succ] at h2; omega
    · rw [if_neg (by rw [hv _ (by omega)]; exact h)]; apply ih _ h1; omega

end Sys2Proof.Machine
end

