-- ==== Sys2Proof/Laws/PerInstr.lean ====
section
/-! SUPPORT. A family of statements about the encoding, one lemma per operation. -/

namespace Sys2Proof.Laws

/-- Is the operation one of format PORT (30_encoding.md R69)? -/
def isPort : Instr → Bool
  | .tick | .reset => true
  | i => (encodeRequest i).isNone

/-- The ports of an operation's edge carry it alone: RST for RESET, TICK for TICK, a bus request for
every other operation (30_encoding.md R69). -/
def EncodesOneOperation.Statement (i : Instr) : Prop :=
  (encode i).rst = decide (i = .reset) ∧ (encode i).tick = decide (i = .tick) ∧
    (encode i).busEn = !isPort i

theorem EncodesOneOperation.rdCmd :
    EncodesOneOperation.Statement .rdCmd := ⟨rfl, rfl, rfl⟩

theorem EncodesOneOperation.rdStatus :
    EncodesOneOperation.Statement .rdStatus := ⟨rfl, rfl, rfl⟩

theorem EncodesOneOperation.rdErr :
    EncodesOneOperation.Statement .rdErr := ⟨rfl, rfl, rfl⟩

theorem EncodesOneOperation.rdParam :
    EncodesOneOperation.Statement .rdParam := ⟨rfl, rfl, rfl⟩

theorem EncodesOneOperation.rdRange :
    EncodesOneOperation.Statement .rdRange := ⟨rfl, rfl, rfl⟩

theorem EncodesOneOperation.rdTicks :
    EncodesOneOperation.Statement .rdTicks := ⟨rfl, rfl, rfl⟩

theorem EncodesOneOperation.rdTargetLo :
    EncodesOneOperation.Statement .rdTargetLo := ⟨rfl, rfl, rfl⟩

theorem EncodesOneOperation.rdTargetHi :
    EncodesOneOperation.Statement .rdTargetHi := ⟨rfl, rfl, rfl⟩

theorem EncodesOneOperation.rdJogDir :
    EncodesOneOperation.Statement .rdJogDir := ⟨rfl, rfl, rfl⟩

theorem EncodesOneOperation.rdMaxSpeed :
    EncodesOneOperation.Statement .rdMaxSpeed := ⟨rfl, rfl, rfl⟩

theorem EncodesOneOperation.rdMaxAccel :
    EncodesOneOperation.Statement .rdMaxAccel := ⟨rfl, rfl, rfl⟩

theorem EncodesOneOperation.rdJumpLo :
    EncodesOneOperation.Statement .rdJumpLo := ⟨rfl, rfl, rfl⟩

theorem EncodesOneOperation.rdJumpHi :
    EncodesOneOperation.Statement .rdJumpHi := ⟨rfl, rfl, rfl⟩

theorem EncodesOneOperation.rdPosLo :
    EncodesOneOperation.Statement .rdPosLo := ⟨rfl, rfl, rfl⟩

theorem EncodesOneOperation.rdPosHi :
    EncodesOneOperation.Statement .rdPosHi := ⟨rfl, rfl, rfl⟩

theorem EncodesOneOperation.rdVel :
    EncodesOneOperation.Statement .rdVel := ⟨rfl, rfl, rfl⟩

theorem EncodesOneOperation.rdAngle :
    EncodesOneOperation.Statement .rdAngle := ⟨rfl, rfl, rfl⟩

theorem EncodesOneOperation.rdFposLo :
    EncodesOneOperation.Statement .rdFposLo := ⟨rfl, rfl, rfl⟩

theorem EncodesOneOperation.rdFposHi :
    EncodesOneOperation.Statement .rdFposHi := ⟨rfl, rfl, rfl⟩

theorem EncodesOneOperation.rdDuty0 :
    EncodesOneOperation.Statement .rdDuty0 := ⟨rfl, rfl, rfl⟩

theorem EncodesOneOperation.rdDuty1 :
    EncodesOneOperation.Statement .rdDuty1 := ⟨rfl, rfl, rfl⟩

theorem EncodesOneOperation.rdDuty2 :
    EncodesOneOperation.Statement .rdDuty2 := ⟨rfl, rfl, rfl⟩

theorem EncodesOneOperation.rdDuty3 :
    EncodesOneOperation.Statement .rdDuty3 := ⟨rfl, rfl, rfl⟩

theorem EncodesOneOperation.rdRsvd (w : WordIndex) :
    EncodesOneOperation.Statement (.rdRsvd w) := ⟨rfl, rfl, rfl⟩

theorem EncodesOneOperation.wrErr (data : Word) :
    EncodesOneOperation.Statement (.wrErr data) := ⟨rfl, rfl, rfl⟩

theorem EncodesOneOperation.wrTargetLo (data : Word) :
    EncodesOneOperation.Statement (.wrTargetLo data) := ⟨rfl, rfl, rfl⟩

theorem EncodesOneOperation.wrTargetHi (data : Word) :
    EncodesOneOperation.Statement (.wrTargetHi data) := ⟨rfl, rfl, rfl⟩

theorem EncodesOneOperation.wrJogDir (data : Word) :
    EncodesOneOperation.Statement (.wrJogDir data) := ⟨rfl, rfl, rfl⟩

theorem EncodesOneOperation.wrMaxSpeed (data : Word) :
    EncodesOneOperation.Statement (.wrMaxSpeed data) := ⟨rfl, rfl, rfl⟩

theorem EncodesOneOperation.wrMaxAccel (data : Word) :
    EncodesOneOperation.Statement (.wrMaxAccel data) := ⟨rfl, rfl, rfl⟩

theorem EncodesOneOperation.wrJumpLo (data : Word) :
    EncodesOneOperation.Statement (.wrJumpLo data) := ⟨rfl, rfl, rfl⟩

theorem EncodesOneOperation.wrJumpHi (data : Word) :
    EncodesOneOperation.Statement (.wrJumpHi data) := ⟨rfl, rfl, rfl⟩

theorem EncodesOneOperation.wrRo (w : WordIndex) (data : Word) :
    EncodesOneOperation.Statement (.wrRo w data) := ⟨rfl, rfl, rfl⟩

theorem EncodesOneOperation.wrRsvd (w : WordIndex) (data : Word) :
    EncodesOneOperation.Statement (.wrRsvd w data) := ⟨rfl, rfl, rfl⟩

theorem EncodesOneOperation.cmdNop :
    EncodesOneOperation.Statement .cmdNop := ⟨rfl, rfl, rfl⟩

theorem EncodesOneOperation.cmdUpdate :
    EncodesOneOperation.Statement .cmdUpdate := ⟨rfl, rfl, rfl⟩

theorem EncodesOneOperation.cmdBrake :
    EncodesOneOperation.Statement .cmdBrake := ⟨rfl, rfl, rfl⟩

theorem EncodesOneOperation.cmdJump :
    EncodesOneOperation.Statement .cmdJump := ⟨rfl, rfl, rfl⟩

theorem EncodesOneOperation.cmdRsvd (data : Word) :
    EncodesOneOperation.Statement (.cmdRsvd data) := ⟨rfl, rfl, rfl⟩

theorem EncodesOneOperation.tick :
    EncodesOneOperation.Statement .tick := ⟨rfl, rfl, rfl⟩

theorem EncodesOneOperation.reset :
    EncodesOneOperation.Statement .reset := ⟨rfl, rfl, rfl⟩

end Sys2Proof.Laws
end

