-- ==== Sys2Proof/Laws/Request.lean ====
section
/-! SUPPORT. What the fields of a request and the decoder answer. -/

namespace Sys2Proof

/-- The write flag of a request made of its fields. -/
@[simp] theorem requestWe_of (a : Bool) (w : WordIndex) (d : Word) :
    requestWe (requestOf a w d) = a := by
  unfold requestWe requestOf
  rw [BitVec.getLsbD_append, BitVec.getLsbD_append]; simp

/-- The word index of a request made of its fields. -/
@[simp] theorem requestIndex_of (a : Bool) (w : WordIndex) (d : Word) :
    requestIndex (requestOf a w d) = w := by
  unfold requestIndex requestOf
  refine BitVec.eq_of_getLsbD_eq fun i hi => ?_
  rw [BitVec.getLsbD_extractLsb', BitVec.getLsbD_append, BitVec.getLsbD_append, if_neg (by omega),
    show 32 + i - 32 = i by omega, if_pos hi, decide_eq_true hi, Bool.true_and]

/-- The data of a request made of its fields. -/
@[simp] theorem requestData_of (a : Bool) (w : WordIndex) (d : Word) :
    requestData (requestOf a w d) = d := by
  unfold requestData requestOf
  refine BitVec.eq_of_getLsbD_eq fun i hi => ?_
  rw [BitVec.getLsbD_extractLsb', BitVec.getLsbD_append, Nat.zero_add, if_pos hi,
    decide_eq_true hi, Bool.true_and]

/-- A request is made of its three fields (30_encoding.md R69). -/
@[simp] theorem requestOf_fields (q : Request) :
    requestOf (requestWe q) (requestIndex q) (requestData q) = q := by
  unfold requestWe requestIndex requestData requestOf
  refine BitVec.eq_of_getLsbD_eq fun i hi => ?_
  rw [BitVec.getLsbD_append, BitVec.getLsbD_append]
  by_cases h : i < 32
  · rw [if_pos h, BitVec.getLsbD_extractLsb', decide_eq_true h, Nat.zero_add, Bool.true_and]
  · rw [if_neg h]
    by_cases h' : i - 32 < 6
    · rw [if_pos h', BitVec.getLsbD_extractLsb', decide_eq_true h', Bool.true_and,
        show 32 + (i - 32) = i by omega]
    · rw [if_neg h', show i = 38 by omega]; simp

/-- A request made of its fields decodes by the tables of 30_encoding.md R73. -/
theorem decodeRequest_requestOf (a : Bool) (w : WordIndex) (d : Word) :
    decodeRequest (requestOf a w d) = if a then writeOp w d else readOp w := by
  simp [decodeRequest]

/-- An edge that presents one request presents its operation alone. -/
theorem decodeEdge_ofRequest (q : Request) : decodeEdge (Edge.ofRequest q) = [decodeRequest q] := by
  simp [decodeEdge, Edge.ofRequest, Edge.request]

/-- READ_OP of a reserved word. -/
theorem readOp_reserved : ∀ w : WordIndex, isReservedWord w = true → readOp w = .rdRsvd w := by
  decide

/-- WRITE_OP of a read-only word. -/
theorem writeOp_readOnly (w : WordIndex) (h : isReadOnlyWord w = true) (d : Word) :
    writeOp w d = .wrRo w d := by
  have : w.toNat = 1 ∨ w.toNat = 3 ∨ w.toNat = 4 ∨ w.toNat = 5 ∨ (14 ≤ w.toNat ∧ w.toNat ≤ 23) := by
    simp [isReadOnlyWord] at h; omega
  unfold writeOp
  split <;> first | omega | (rw [if_pos h])

/-- WRITE_OP of a reserved word. -/
theorem writeOp_reserved (w : WordIndex) (h : isReservedWord w = true) (d : Word) :
    writeOp w d = .wrRsvd w d := by
  have h1 : w.toNat = 11 ∨ 24 ≤ w.toNat := by simpa [isReservedWord] using h
  have h2 : isReadOnlyWord w = false := by simp [isReadOnlyWord]; omega
  unfold writeOp
  split <;> first | omega | (rw [if_neg (by simp [h2])])

/-- A code that names no command. -/
theorem commandOp_reserved (d : Word) (h : isReservedCommand d = true) :
    commandOp d = .cmdRsvd d := by
  have : 3 < d.toNat := by simpa [isReservedCommand] using h
  unfold commandOp; split <;> first | omega | rfl

end Sys2Proof
end

