-- ==== Sys2Proof/Laws/System.lean ====
section
/-! SUPPORT. What the addressing of several instances can do, said once. -/

namespace Sys2Proof.Machine

/-- The one byte address of each word of an instance's window (20_memory.md R51). -/
theorem windowWord_eq_some_iff (c : Config) (addr : Nat) (w : WordIndex) :
    windowWord c addr = some w ↔ addr = c.windowBase + 4 * w.toNat := by
  have := w.isLt
  unfold windowWord
  split
  · rw [Option.some.injEq]
    constructor
    · rintro rfl; simp only [BitVec.toNat_ofNat]; omega
    · intro h; apply BitVec.eq_of_toNat_eq; simp only [BitVec.toNat_ofNat]; omega
  · simp only [reduceCtorEq, false_iff]; omega

/-- A system after reset is legal where its parameters are and its windows lie apart. -/
theorem systemReset_wf (c : Config) (bases : List Nat) (h : c.wf = true)
    (apart : bases.Pairwise fun a b => a + 256 ≤ b ∨ b + 256 ≤ a) :
    SystemWf (systemReset c bases) := by
  constructor
  · intro s hs
    obtain ⟨b, hb, rfl⟩ := List.mem_map.1 hs
    have hl : 1 ≤ bases.length := List.length_pos_of_mem hb
    simp only [Config.wf, Bool.and_eq_true, decide_eq_true_eq] at h ⊢
    exact ⟨h.1, hl⟩
  · intro s hs
    obtain ⟨b, -, rfl⟩ := List.mem_map.1 hs
    simp [systemReset, State.resetOf]
  · exact List.pairwise_map.2 (apart.imp id)

end Sys2Proof.Machine
end

