-- ==== Sys2Proof/Laws/Tick.lean ====
section
/-! SUPPORT. What a tick, an edge and a run of operations can do, said once; the filter's sums. -/

namespace Sys2Proof.Machine

/-- A tick answers a next state in two ways only: the request is refused, or the phases run
(40_engine_fsm.md R78, 60_exceptions.md R166). -/
theorem execTick_next (s t : State) (h : exec .tick s = .next t) :
    (s.busyLeft ≠ 0 ∧ t = s.raise .tickLost) ∨
    (s.busyLeft = 0 ∧ s.brakeDividesByZero = false ∧
      t = { s.tickPhases with busyLeft := s.cfg.stepClocks - 1 }) := by
  have h : execTick s = .next t := h
  unfold execTick at h
  split at h
  · rename_i hb; cases h; exact .inl ⟨by simpa [State.busy] using hb, rfl⟩
  · rename_i hb
    split at h
    · cases h
    · rename_i hd; cases h
      exact .inr ⟨by simpa [State.busy] using hb, by simpa using hd, rfl⟩

/-- A tick divides by 0 in a state with MAX_ACCEL = 0 alone. -/
theorem brakeDividesByZero_of_accel (s : State) (h : s.maxAccel ≠ 0) :
    s.brakeDividesByZero = false := by
  have : (s.maxAccel == 0) = false := by simpa using h
  unfold State.brakeDividesByZero; rw [this]; simp

/-- A tick divides by 0 in BRAKE alone. -/
theorem brakeDividesByZero_of_fsm (s : State) (h : s.fsm ≠ .brake) :
    s.brakeDividesByZero = false := by
  have : (s.fsm == .brake) = false := by simpa using h
  unfold State.brakeDividesByZero; rw [this]; simp

/-- The phases of a tick outside the engine and the filter leave what the FSM phase leaves. -/
theorem tickPhases_limits (s : State) :
    s.tickPhases.cfg = s.cfg ∧ s.tickPhases.maxSpeed = s.maxSpeed ∧
      s.tickPhases.maxAccel = s.maxAccel := by
  have k := runFsm_frame s.countdown
  simp [State.tickPhases, k.cfg, k.maxSpeed, k.maxAccel]

/-- An edge answers a next state where its operations do. -/
theorem runEdge_next (s t : State) (e : Edge) :
    s.runEdge e = .next t ↔
      ∃ u, runOps (decodeEdge e) s.enterEdge = .next u ∧ t = u.clockBusy (s.acceptsTick e) := by
  unfold State.runEdge
  cases h : runOps (decodeEdge e) s.enterEdge with
  | next u => simp [eq_comm]
  | fault r => simp
  | refused r => simp

/-- A run of operations answers a next state where each does. -/
theorem runOps_cons_next (i : Instr) (is : List Instr) (s t : State) :
    runOps (i :: is) s = .next t ↔ ∃ u, exec i s = .next u ∧ runOps is u = .next t := by
  rw [runOps]
  cases h : exec i s with
  | next u => simp
  | fault r => simp
  | refused r => simp

/-- The sum of BUF after one entry is replaced (41_filter_commutator.md R103). -/
theorem bufTotal_set (b : List Pos) (i : Nat) (x : Pos) (h : i < b.length) :
    bufTotal (b.set i x) = bufTotal b + x.toInt - (b.getD i 0).toInt := by
  induction b generalizing i with
  | nil => simp at h
  | cons a b ih =>
    cases i with
    | zero => simp [bufTotal]; omega
    | succ i =>
      have := ih i (by simpa using h)
      simp [bufTotal] at this ⊢; omega

/-- The sum of BUF where every entry is the same. -/
theorem bufTotal_replicate (n : Nat) (x : Pos) :
    bufTotal (List.replicate n x) = n * x.toInt := by
  simp [bufTotal]

/-- The shift of L times a number (41_filter_commutator.md R105). -/
theorem asr_pow_mul (k : Nat) (x : Int) : asr (((2 ^ k : Nat) : Int) * x) k = x := by
  unfold asr; push_cast; rw [Int.fdiv_eq_ediv_of_nonneg _ (by positivity)]
  exact Int.mul_ediv_cancel_left _ (by positivity)

end Sys2Proof.Machine
end

