-- ==== Sys2Proof/Tests/Slice0.lean ====
section
/-! SUPPORT. Tests with expected results from the spec, and one witness for every statement that has
hypotheses. -/

namespace Sys2Proof.Tests

open Sys2Proof Sys2Proof.Machine

/-- Does the outcome answer a next state with the property? -/
def sees (o : Host.Outcome State Fault Refusal) (p : State → Bool) : Bool :=
  match o with
  | .next t => p t
  | .fault _ => false
  | .refused _ => false

theorem exists_of_sees {o : Host.Outcome State Fault Refusal} {p : State → Bool}
    (h : sees o p = true) : ∃ t, o = .next t ∧ p t = true := by
  cases o with
  | next t => exact ⟨t, rfl, h⟩
  | fault r => cases h
  | refused r => cases h

/-- A small build: L = 2, P = LUT_BITS = 4, RANGE = 1024, STEP_CLOCKS = 1. -/
def small : Config := { Config.test with log2L := 1, p := 4, lutBits := 4 }

/-- A moving state of the small build in the FSM state `f`: POS = `p`, VEL = `v` along DIR = 1,
TARGET = `x`, MAX_SPEED = 500, MAX_ACCEL = 10, as in the examples of 40_engine_fsm.md. -/
def moving (f : Fsm) (p v x : Int) : State :=
  { State.resetOf small with
    fsm := f, pos := BitVec.ofInt 64 p, vel := BitVec.ofInt 32 v, dir := .pos, moving := true
    target := BitVec.ofInt 64 x, maxSpeed := 500, maxAccel := 10, fcount := 2 }

/-- A state at rest of the small build with POS = 0 and TARGET = `x`. -/
def resting (x : Int) : State :=
  { State.resetOf small with target := BitVec.ofInt 64 x, maxSpeed := 500, maxAccel := 10 }

/-! ## Well-formedness: each check refuses an ill-formed term -/

theorem test_wf_refuses_read_of_named_word : (Instr.rdRsvd 5).wf = false := by decide
theorem test_wf_refuses_ro_write_of_writable_word : (Instr.wrRo 2 0).wf = false := by decide
theorem test_wf_refuses_rsvd_write_of_named_word : (Instr.wrRsvd 8 0).wf = false := by decide
theorem test_wf_refuses_named_command : (Instr.cmdRsvd 2).wf = false := by decide

/-- The bounds of 30_encoding.md R74. -/
theorem test_wf_bounds :
    (Instr.rdRsvd 11).wf = true ∧ (Instr.rdRsvd 12).wf = false ∧ (Instr.rdRsvd 23).wf = false ∧
    (Instr.rdRsvd 24).wf = true ∧ (Instr.rdRsvd 63).wf = true ∧
    (Instr.wrRo 1 0).wf = true ∧ (Instr.wrRo 3 0).wf = true ∧ (Instr.wrRo 5 0).wf = true ∧
    (Instr.wrRo 6 0).wf = false ∧ (Instr.wrRo 13 0).wf = false ∧ (Instr.wrRo 14 0).wf = true ∧
    (Instr.wrRo 23 0).wf = true ∧ (Instr.wrRo 24 0).wf = false ∧
    (Instr.cmdRsvd 3).wf = false ∧ (Instr.cmdRsvd 4).wf = true ∧
    (Instr.cmdRsvd 0xFFFFFFFF).wf = true := by decide

/-! ## Decoding: words written out from 30_encoding.md R69 (bit 38 WE, bits 37..32 W) and the
programs of 95_test_vectors.md L3 -/

theorem test_decode_status_reads :
    decodeTableWord 40 0x0000000000 = some .rdCmd ∧
    decodeTableWord 40 0x0100000000 = some .rdStatus ∧
    decodeTableWord 40 0x0200000000 = some .rdErr ∧
    decodeTableWord 40 0x0300000000 = some .rdParam ∧
    decodeTableWord 40 0x0400000000 = some .rdRange ∧
    decodeTableWord 40 0x0500000000 = some .rdTicks := by decide

theorem test_decode_setpoint_reads :
    decodeTableWord 40 0x0600000000 = some .rdTargetLo ∧
    decodeTableWord 40 0x0700000000 = some .rdTargetHi ∧
    decodeTableWord 40 0x0800000000 = some .rdJogDir ∧
    decodeTableWord 40 0x0900000000 = some .rdMaxSpeed ∧
    decodeTableWord 40 0x0A00000000 = some .rdMaxAccel ∧
    decodeTableWord 40 0x0C00000000 = some .rdJumpLo ∧
    decodeTableWord 40 0x0D00000000 = some .rdJumpHi := by decide

theorem test_decode_engine_reads :
    decodeTableWord 40 0x0E00000000 = some .rdPosLo ∧
    decodeTableWord 40 0x0F00000000 = some .rdPosHi ∧
    decodeTableWord 40 0x1000000000 = some .rdVel ∧
    decodeTableWord 40 0x1100000000 = some .rdAngle ∧
    decodeTableWord 40 0x1200000000 = some .rdFposLo ∧
    decodeTableWord 40 0x1300000000 = some .rdFposHi ∧
    decodeTableWord 40 0x1400000000 = some .rdDuty0 ∧
    decodeTableWord 40 0x1500000000 = some .rdDuty1 ∧
    decodeTableWord 40 0x1600000000 = some .rdDuty2 ∧
    decodeTableWord 40 0x1700000000 = some .rdDuty3 := by decide

/-- Reserved words, and a read whose don't-care DATA is not 0. -/
theorem test_decode_reserved_reads :
    decodeTableWord 40 0x0B00000000 = some (.rdRsvd 11) ∧
    decodeTableWord 40 0x1800000000 = some (.rdRsvd 24) ∧
    decodeTableWord 40 0x3FFFFFFFFF = some (.rdRsvd 63) ∧
    decodeTableWord 40 0x01FFFFFFFF = some .rdStatus := by decide

theorem test_decode_writes :
    decodeTableWord 40 0x4200000004 = some (.wrErr 4) ∧
    decodeTableWord 40 0x4600002710 = some (.wrTargetLo 10000) ∧
    decodeTableWord 40 0x47FFFFFFFF = some (.wrTargetHi 0xFFFFFFFF) ∧
    decodeTableWord 40 0x4800000001 = some (.wrJogDir 1) ∧
    decodeTableWord 40 0x49000001F4 = some (.wrMaxSpeed 500) ∧
    decodeTableWord 40 0x4A0000000A = some (.wrMaxAccel 10) ∧
    decodeTableWord 40 0x4CFFFFFF9C = some (.wrJumpLo 0xFFFFFF9C) ∧
    decodeTableWord 40 0x4D00000000 = some (.wrJumpHi 0) := by decide

theorem test_decode_ignored_writes :
    decodeTableWord 40 0x4100000005 = some (.wrRo 1 5) ∧
    decodeTableWord 40 0x4500000005 = some (.wrRo 5 5) ∧
    decodeTableWord 40 0x5700000005 = some (.wrRo 23 5) ∧
    decodeTableWord 40 0x4B00000005 = some (.wrRsvd 11 5) ∧
    decodeTableWord 40 0x5800000005 = some (.wrRsvd 24 5) ∧
    decodeTableWord 40 0x7F00000005 = some (.wrRsvd 63 5) := by decide

theorem test_decode_commands :
    decodeTableWord 40 0x4000000000 = some .cmdNop ∧
    decodeTableWord 40 0x4000000001 = some .cmdUpdate ∧
    decodeTableWord 40 0x4000000002 = some .cmdBrake ∧
    decodeTableWord 40 0x4000000003 = some .cmdJump ∧
    decodeTableWord 40 0x4000000004 = some (.cmdRsvd 4) ∧
    decodeTableWord 40 0x4000000101 = some (.cmdRsvd 0x101) := by decide

/-- The strobes, and words that no port presents. -/
theorem test_decode_strobes :
    decodeTableWord 8 1 = some .tick ∧ decodeTableWord 8 2 = some .reset ∧
    decodeTableWord 8 0 = none ∧ decodeTableWord 8 4 = none ∧
    decodeTableWord 40 0x8000000000 = none := by decide

/-- 20_memory.md R62: RST alone where it is 1; else the access, then the tick. -/
theorem test_decode_edges :
    decodeEdge ⟨true, true, true, true, 0, 1⟩ = [.reset] ∧
    decodeEdge ⟨false, true, true, true, 0, 1⟩ = [.cmdUpdate, .tick] ∧
    decodeEdge ⟨false, true, false, true, 0, 1⟩ = [.tick] ∧
    decodeEdge Edge.idle = [] := by decide

/-! ## Reads: the examples of 42_host_operations.md R114 to R137 -/

/-- R115: moving in ACC with DIR = 1, FCOUNT = 16, SP_DIRTY = 0. -/
theorem test_read_status :
    sees (exec .rdStatus { moving .acc 0 10 100 with fcount := 16 })
      (fun t => t.busRdata == 0x00100312) = true := by decide

/-- R117 (LOG2_L = 4, P = LUT_BITS = 12), R118 (RANGE = 1024). -/
theorem test_read_param_and_range :
    sees (exec .rdParam State.reset) (fun t => t.busRdata == 0x010C0C04) = true ∧
    sees (exec .rdRange State.reset) (fun t => t.busRdata == 0x400) = true := by decide

/-- R120, R127, R131, R121: TARGET = -2, POS = 2^32 + 5, FPOS = -1. -/
theorem test_read_halves :
    sees (exec .rdTargetLo (resting (-2)))
      (fun t => t.busRdata == 0xFFFFFFFE && t.targetHiLatch == 0xFFFFFFFF) = true ∧
    sees (exec .rdPosLo (moving .acc (2 ^ 32 + 5) 0 0))
      (fun t => t.busRdata == 5 && t.posHiLatch == 1) = true ∧
    sees (exec .rdFposLo { State.reset with sum := -1 })
      (fun t => t.busRdata == 0xFFFFFFFF && t.fposHiLatch == 0xFFFFFFFF) = true ∧
    sees (exec .rdTargetHi { State.reset with targetHiLatch := 7 })
      (fun t => t.busRdata == 7) = true := by decide

/-- R129 (VEL = -290), R130 (FPOS = -1, P = 12), R122 (JOG = -1), R124 (after reset). -/
theorem test_read_values :
    sees (exec .rdVel (moving .acc 0 (-290) 0)) (fun t => t.busRdata == 0xFFFFFEDE) = true ∧
    sees (exec .rdAngle { State.reset with sum := -1 }) (fun t => t.busRdata == 4095) = true ∧
    sees (exec .rdJogDir { State.reset with jog := .neg })
      (fun t => t.busRdata == 0xFFFFFFFF) = true ∧
    sees (exec .rdMaxAccel State.reset) (fun t => t.busRdata == 1) = true := by decide

/-! ## Writes and commands: 95_test_vectors.md L2.7 -/

/-- H1, H2. -/
theorem test_write_max_speed :
    sees (exec (.wrMaxSpeed 0x80000000) State.reset)
      (fun t => t.err == 4 && t.maxSpeed == 0) = true ∧
    sees (exec (.wrMaxSpeed 0x7FFFFFFF) State.reset)
      (fun t => t.err == 0 && t.maxSpeed == 0x7FFFFFFF) = true := by decide

/-- H3, H5. -/
theorem test_write_max_accel :
    sees (exec (.wrMaxAccel 0) State.reset) (fun t => t.err == 4 && t.maxAccel == 1) = true ∧
    sees (exec (.wrMaxAccel 0x80000001) State.reset)
      (fun t => t.err == 4 && t.maxAccel == 1) = true := by decide

/-- H6, H7. -/
theorem test_write_jog_dir :
    sees (exec (.wrJogDir 2) State.reset) (fun t => t.err == 4 && t.jog == .zero) = true ∧
    sees (exec (.wrJogDir 0xFFFFFFFF) State.reset)
      (fun t => t.err == 0 && t.jog == .neg) = true := by decide

/-- H8, H9: the hold register, and the commit. -/
theorem test_write_target :
    sees (exec (.wrTargetLo 0x12345678) State.reset)
      (fun t => t.target == 0 && t.tloHold == 0x12345678) = true ∧
    sees (exec (.wrTargetHi 0xFFFFFFFF) { State.reset with tloHold := 0x12345678 })
      (fun t => t.target.toInt == -3989547400) = true := by decide

/-- R138: ERR = 0x6 and `WR ERR, 0x2` give ERR = 0x4. -/
theorem test_write_err :
    sees (exec (.wrErr 2) { State.reset with err := 6 }) (fun t => t.err == 4) = true := by decide

/-- R145: JUMP_HI = 0xFFFFFFFF with JUMP_LO = 0xFFFFFF9C is -100. -/
theorem test_write_jump :
    sees (exec (.wrJumpHi 0xFFFFFFFF) { State.reset with jumpArg := 0xFFFFFF9C })
      (fun t => t.jumpArg.toInt == -100) = true := by decide

/-- H15, H17, H22: refused commands. -/
theorem test_refused_commands :
    sees (exec (.cmdRsvd 0x101) State.reset) (fun t => t.err == 2) = true ∧
    sees (exec .cmdBrake State.reset) (fun t => t.err == 2 && t.fsm == .wait) = true ∧
    sees (exec .cmdUpdate (moving .brake 0 1 0)) (fun t => t.err == 2 && t.fsm == .brake) = true ∧
    sees (exec .cmdJump (moving .acc 0 1 0)) (fun t => t.err == 2 && t.pos == 0) = true := by decide

/-- H21, H23, H24: accepted commands. -/
theorem test_accepted_commands :
    sees (exec .cmdUpdate { moving .constSpeed 0 500 9999 with spDirty := true })
      (fun t => t.fsm == .start && !t.spDirty) = true ∧
    sees (exec .cmdJump { State.reset with jumpArg := 100 })
      (fun t => t.pos == 100 && t.target == 100 && t.fpos == 100 && t.statusWord == 0) = true ∧
    sees (exec .cmdBrake (moving .acc 0 10 9999))
      (fun t => t.fsm == .brake && t.target == 9999) = true := by decide

/-! ## The tick: the examples of 40_engine_fsm.md R84 to R91 and 41_filter_commutator.md R111 -/

/-- What an example gives after its tick. -/
def gives (s : State) (f : Fsm) (p v : Int) : Bool :=
  sees (exec .tick s) (fun t => t.fsm == f && t.pos.toInt == p && t.vel.toInt == v)

theorem test_tick_examples :
    gives (resting 100) .acc 5 10 = true ∧
    gives (moving .start 9000 500 10000) .acc 9495 490 = true ∧
    gives (moving .acc 4800 310 10000) .decToZero 5115 320 = true ∧
    gives { moving .dec 0 500 9999 with maxSpeed := 300 } .dec 495 490 = true ∧
    gives (moving .constSpeed 0 500 12750) .decToZero 500 500 = true ∧
    gives (moving .decToZero 5120 320 10000) .decToZero 5435 310 = true ∧
    gives (moving .standstill 10002 3 10000) .wait 10000 0 = true ∧
    gives (moving .brake 1000 300 9999) .decToZero 1295 290 = true := by decide +kernel

/-- R111: RANGE = 1024, P = LUT_BITS = 12, FPOS = 0 give DUTY = (512, 512, 1023, 0). -/
theorem test_tick_duty :
    sees (exec .tick State.reset) (fun t => t.duty == ⟨512, 512, 1023, 0⟩ && t.ticks == 1) = true := by
  decide +kernel

/-- R112: LUT_BITS = 4, RANGE = 1024. -/
theorem test_lut_listing :
    (List.range 16).map (lutS small) =
      [512, 707, 873, 984, 1023, 984, 873, 707, 512, 316, 150, 39, 0, 39, 150, 316] := by
  decide +kernel

/-- 70_reset_and_hazards.md R178: RESET from a moving state. -/
theorem test_reset :
    sees (exec .reset (moving .acc 5 10 100))
      (fun t => t == { State.resetOf small with inputs := [] }) = true := by decide

/-- 95_test_vectors.md L2.11: set_speed(50), (12.20703125) and (1.1e10), set_accel(1000), (1e5) and
(0), with POSITION_SCALE = 4096 and CYCLE_TIME = 5e-5. -/
theorem test_host_conversions :
    speedCounts Config.test (.fin false 50 0) = some 10 ∧
    speedCounts Config.test (.fin false 3125 (-8)) = some 3 ∧
    speedCounts Config.test (.fin false 11000000000 0) = none ∧
    accelCounts Config.test (.fin false 1000 0) = none ∧
    accelCounts Config.test (.fin false 100000 0) = some 1 ∧
    accelCounts Config.test (.fin false 0 0) = none := by decide +kernel

/-- 60_exceptions.md R175: a write at the second instance's MAX_SPEED (offset 36) is an edge of that
instance alone. -/
theorem test_system_access :
    ((systemAccess (systemReset small [0x1000, 0x1100]) true 0x1124 500).map fun s =>
      decodeEdge s.currentEdge) = [[], [.wrMaxSpeed 500]] := by decide

/-- NUM_AXES and CYCLE_TIME outside 00_scope.md R6. -/
theorem test_config_refuses :
    Config.wf { small with numAxes := 0 } = false ∧
    Config.wf { small with cycleTime := .fin false 0 0 } = false ∧
    Config.wf { small with cycleTime := .fin true 1 0 } = false ∧
    Config.wf { small with cycleTime := .inf false } = false := by decide

/-- The strobe words beside 1 and 2, by log entry 7. -/
theorem test_strobe_words :
    decodeTableWord 8 3 = some .reset ∧ decodeTableWord 8 0 = none ∧ decodeTableWord 8 4 = none := by
  decide

/-! ## Witnesses: for every statement with hypotheses, a state and operands that meet them together -/

/-- DecodeOfEncodeIsTheOperation: well-formed operations at the bounds of their operands. -/
theorem witness_DecodeOfEncodeIsTheOperation :
    (Instr.rdRsvd 11).wf = true ∧ (Instr.rdRsvd 63).wf = true ∧ (Instr.wrRo 23 7).wf = true ∧
    (Instr.wrRsvd 24 7).wf = true ∧ (Instr.cmdRsvd 4).wf = true ∧ Instr.tick.wf = true := by decide

/-- A write; a read with DATA; a tick with bus ports that are ignored; RST beside everything. -/
theorem witness_StepRunsThePresentedOperation :
    ((resting 0).present (encode (.wrMaxSpeed 500))).inputs = encode (.wrMaxSpeed 500) :: [] ∧
    decodeEdge (encode (.wrMaxSpeed 500)) = [.wrMaxSpeed 500] ∧
    decodeEdge ⟨false, false, true, false, 1, 0xFFFFFFFF⟩ = [.rdStatus] ∧
    decodeEdge ⟨false, true, false, true, 9, 7⟩ = [.tick] ∧
    decodeEdge ⟨true, true, true, true, 9, 7⟩ = [.reset] := by
  decide

/-- An edge with a write of ERR and a tick. -/
def clearAndTick : Edge :=
  { Edge.ofRequest (requestOf true 2 0x1F) with tick := true }

/-- The premises of both clauses: an edge with RST = 1, and one with an access and a tick whose
operations complete. -/
theorem witness_EdgeOrderIsResetThenAccessThenTick :
    (⟨true, true, true, true, 2, 0⟩ : Edge).rst = true ∧
    clearAndTick.rst = false ∧ clearAndTick.busEn = true ∧ clearAndTick.tick = true ∧
    ∃ s1 s2 : State, exec (decodeRequest clearAndTick.request)
        { (resting 100).present clearAndTick with
          inputs := [], busRdata := Config.freeRdata 0, freeCount := 1 } = .next s1 ∧
      exec .tick s1 = .next s2 :=
  ⟨rfl, rfl, rfl, rfl, _, _, rfl, rfl⟩

theorem witness_IdleEdgeOnlyClocksBusy :
    (resting 0).inputs = [] ∧
    ((resting 0).present Edge.idle).inputs = Edge.idle :: [] ∧ Edge.idle.rst = false ∧
    Edge.idle.tick = false ∧ Edge.idle.busEn = false := by decide

/-- A tick that is lost at the edge that clears ERR. -/
theorem witness_TickErrorWinsOverSameEdgeClear :
    clearAndTick.rst = false ∧ clearAndTick.busEn = true ∧ clearAndTick.tick = true ∧
    clearAndTick.busWe = true ∧ clearAndTick.busW = 2 ∧
    (State.present { resting 0 with busyLeft := 1 } clearAndTick).inputs = clearAndTick :: [] ∧
    ∃ u, exec .tick { State.present { resting 0 with busyLeft := 1 } clearAndTick with err := 0 } =
        .next u ∧ u.hasErr .tickLost = true := by
  refine ⟨rfl, rfl, rfl, rfl, by decide, rfl, exists_of_sees (by decide)⟩

/-- A moving state that has the invariant. -/
theorem witness_Inv : Inv (moving .acc 5 10 100) := by constructor <;> decide

/-- EveryStepCompletes, FposLiesBetweenBufEntries: the same state. StepKeepsInv: and its next
edge. -/
theorem witness_StepKeepsInv :
    Inv ((moving .acc 5 10 100).present Edge.idle) ∧
    ∃ t, step ((moving .acc 5 10 100).present Edge.idle) = .next t :=
  ⟨by constructor <;> decide, _, rfl⟩

theorem witness_TicksWhileBusyAreLost :
    let s : State := { resting 0 with
      cfg := { small with stepClocks := 3 }, inputs := List.replicate 3 Edge.ofTick }
    1 ≤ s.cfg.stepClocks ∧ s.busyLeft = 0 ∧ s.maxAccel ≠ 0 ∧
    s.inputs = List.replicate s.cfg.stepClocks Edge.ofTick ∧ 2 ≤ s.cfg.stepClocks := by decide

theorem witness_ResetLeavesTheResetState : Edge.ofReset.rst = true := rfl

theorem witness_ReadsReturnTheWindowAndResetClearsIt : ∃ t, exec .reset (moving .acc 5 10 100) = .next t := ⟨_, rfl⟩

/-- Legal builds at the bounds of 00_scope.md R6 (InvAtReset, and every statement about a legal
build). -/
theorem witness_InvAtReset :
    Config.wf { small with log2L := 0, p := 2, lutBits := 2, range := 2, stepClocks := 1 } = true ∧
    Config.wf { small with
      log2L := 8, p := 32, lutBits := 32, range := 65536, stepClocks := 9, numAxes := 4 } = true ∧
    small.wf = true := by decide

theorem witness_MaxAccelStaysPositive :
    (resting 0).maxAccel ≠ 0 ∧ ∃ t, exec (.wrMaxAccel 1) (resting 0) = .next t :=
  ⟨by decide, exists_of_sees (p := fun _ => true) (by decide) |>.imp fun _ h => h.1⟩

/-- CommandAndReservedReadsGiveZero and IgnoredWritesChangeNothing: the bounds of the ranges. -/
theorem witness_ignored_words :
    (11 : WordIndex).toNat = 11 ∧ 24 ≤ (24 : WordIndex).toNat ∧ 24 ≤ (63 : WordIndex).toNat ∧
    (1 : WordIndex).toNat = 1 ∧ 3 ≤ (3 : WordIndex).toNat ∧ (5 : WordIndex).toNat ≤ 5 ∧
    14 ≤ (14 : WordIndex).toNat ∧ (23 : WordIndex).toNat ≤ 23 := by decide

theorem witness_ParamAndRangeReadTheBuild : (resting 0).cfg.wf = true := by decide

theorem witness_AngleAndDutyReads : State.reset.cfg.wf = true := by decide

/-- A tick between the two reads; each of the three registers. -/
theorem witness_LowThenHighReadIsOneInstant :
    (∃ s1 s2 t, exec .rdTargetLo (resting 100) = .next s1 ∧ runOps [.tick] s1 = .next s2 ∧
      exec .rdTargetHi s2 = .next t) ∧
    (∃ s1 s2 t, exec .rdPosLo (resting 100) = .next s1 ∧ runOps [.tick] s1 = .next s2 ∧
      exec .rdPosHi s2 = .next t) ∧
    (∃ s1 s2 t, exec .rdFposLo (resting 100) = .next s1 ∧ runOps [.tick] s1 = .next s2 ∧
      exec .rdFposHi s2 = .next t) ∧
    Instr.reset ∉ [Instr.tick] ∧ Instr.rdTargetLo ∉ [Instr.tick] ∧
    Instr.rdPosLo ∉ [Instr.tick] ∧ Instr.rdFposLo ∉ [Instr.tick] :=
  ⟨⟨_, _, _, rfl, rfl, rfl⟩, ⟨_, _, _, rfl, rfl, rfl⟩, ⟨_, _, _, rfl, rfl, rfl⟩,
    by decide, by decide, by decide, by decide⟩

/-- The last word of a window and the addresses beside it, with the next instance's window there. -/
theorem witness_WindowStandsAtItsBaseLittleEndian :
    let c : Config := { small with windowBase := 0x1000 }
    let c' : Config := { small with windowBase := 0x1100 }
    windowsApart c c' ∧ windowWord c 0x10FC = some 63 ∧ 0xFFF < c.windowBase ∧
    c.windowBase + 256 ≤ 0x1100 := by
  refine ⟨.inl (by decide), by decide, by decide, by decide⟩

/-- The three legal values, and illegal values beside them. -/
theorem witness_JogDirWriteTakesThreeValues :
    (0xFFFFFFFF : Word).toInt = -1 ∧ (0 : Word).toInt = 0 ∧ (1 : Word).toInt = 1 ∧
    (2 : Word).toInt = 2 ∧ (0xFFFFFFFE : Word).toInt = -2 := by decide

theorem witness_MaxSpeedWriteTakesThirtyOneBits :
    (0x7FFFFFFF : Word).toNat < 2 ^ 31 ∧ 2 ^ 31 ≤ (0x80000000 : Word).toNat := by decide

theorem witness_MaxAccelWriteTakesPositiveThirtyOneBits :
    1 ≤ (1 : Word).toNat ∧ (0x7FFFFFFF : Word).toNat < 2 ^ 31 ∧ (0 : Word).toNat = 0 ∧
    2 ^ 31 ≤ (0x80000000 : Word).toNat := by decide

/-- A write of TARGET_HI and the word POS_LO; and one of MAX_SPEED and the word TARGET_LO. -/
theorem witness_RegisterWritesKeepTheOtherWords :
    (∃ t, exec (writeOp 7 1) (moving .acc 5 10 100) = .next t) ∧
    (∃ t, exec (writeOp 9 1) (moving .acc 5 10 100) = .next t) ∧
    (7 : WordIndex) ≠ 0 ∧ (14 : WordIndex) ≠ 7 ∧ (14 : WordIndex) ≠ 1 ∧ (14 : WordIndex) ≠ 2 ∧
    ¬ ((7 : WordIndex) = 7 ∧ (14 : WordIndex) = 6) ∧ (6 : WordIndex) ≠ 9 ∧
    ¬ ((9 : WordIndex) = 7 ∧ (6 : WordIndex) = 6) :=
  ⟨⟨_, rfl⟩, exists_of_sees (p := fun _ => true) (by decide) |>.imp fun _ h => h.1,
    by decide, by decide, by decide, by decide, by decide, by decide, by decide⟩

/-- Every FSM state stands in one clause of each command rule. -/
theorem witness_command_clauses :
    (resting 0).fsm = .wait ∧ (moving .brake 0 1 0).fsm = .brake ∧
    (moving .standstill 0 1 0).fsm ≠ .wait ∧ (moving .standstill 0 1 0).fsm ≠ .brake ∧
    (moving .decToZero 0 1 0).fsm = .decToZero ∧ (moving .start 0 1 0).fsm = .start ∧
    (moving .acc 0 1 0).fsm ≠ .wait ∧ 3 < (4 : Word).toNat := by decide

theorem witness_TickRequestWhileBusyIsDropped :
    State.busyLeft { resting 0 with busyLeft := 1 } ≠ 0 := by decide

theorem witness_TickPerformsItsPhases :
    (moving .brake 5 10 100).busyLeft = 0 ∧ (moving .brake 5 10 100).maxAccel ≠ 0 := by decide

theorem witness_BrakeTickStopsOnZeroMaxAccel :
    let s : State := { moving .brake 5 10 100 with maxAccel := 0 }
    s.busyLeft = 0 ∧ s.fsm = .brake ∧ s.vel ≠ 0 ∧ s.maxAccel = 0 := by decide

/-- No trigger; a trigger by TARGET; a trigger by JOG. -/
theorem witness_WaitTickRule :
    (resting 0).fsm = .wait ∧ (resting 0).busyLeft = 0 ∧ (resting 0).jog = .zero ∧
    (resting 0).target = (resting 0).pos ∧ (resting 1).target ≠ (resting 1).pos ∧
    State.jog { resting 0 with jog := .neg } ≠ .zero := by decide

/-- At the target at rest; below the limit; at the limit exactly. -/
theorem witness_StartTickRule :
    (moving .start 7 0 7).fsm = .start ∧ (moving .start 7 0 7).busyLeft = 0 ∧
    flipDir (signDir (moving .start 7 0 7).vel.toInt) = .zero ∧
    signDir ((moving .start 0 499 9999).target.toInt - (moving .start 0 499 9999).pos.toInt) =
      .pos ∧
    (moving .start 0 499 9999).vel.toInt * 1 < (moving .start 0 499 9999).maxSpeed.toNat ∧
    ((moving .start 0 500 9999).maxSpeed.toNat : Int) ≤ (moving .start 0 500 9999).vel.toInt * 1 := by
  decide

theorem witness_integrating_tick_rules :
    (moving .acc 4800 310 10000).fsm = .acc ∧ (moving .acc 4800 310 10000).busyLeft = 0 ∧
    (moving .dec 0 600 9999).fsm = .dec ∧ (moving .dec 0 600 9999).busyLeft = 0 ∧
    (moving .constSpeed 0 500 12750).fsm = .constSpeed ∧
    (moving .constSpeed 0 500 12750).busyLeft = 0 ∧
    (moving .standstill 98 3 100).fsm = .standstill ∧
    (moving .standstill 98 3 100).busyLeft = 0 := by decide

/-- The guard at remaining distance 0 and at speed 0; past the guard at remaining distance 1. -/
theorem witness_DecToZeroTickRule :
    (moving .decToZero 7 3 7).fsm = .decToZero ∧ (moving .decToZero 7 3 7).busyLeft = 0 ∧
    ((moving .decToZero 7 3 7).target.toInt - (moving .decToZero 7 3 7).pos.toInt) * 1 ≤ 0 ∧
    (moving .decToZero 6 0 7).vel.toInt * 1 ≤ 0 ∧
    0 < ((moving .decToZero 6 1 7).target.toInt - (moving .decToZero 6 1 7).pos.toInt) * 1 ∧
    0 < (moving .decToZero 6 1 7).vel.toInt * 1 := by decide

theorem witness_BrakeTickRule :
    (moving .brake 5 0 100).fsm = .brake ∧ (moving .brake 5 0 100).busyLeft = 0 ∧
    (moving .brake 5 0 100).vel = 0 ∧ (moving .brake 5 (-1) 100).vel ≠ 0 ∧
    (moving .brake 5 (-1) 100).maxAccel ≠ 0 := by decide

/-- A tick that ends in CONST_SPEED, and one that ends in DEC. -/
theorem witness_CruiseSpeedIsTheLimit :
    Inv (moving .acc 0 495 99999) ∧
    (∃ t, exec .tick (moving .acc 0 495 99999) = .next t ∧ (t.fsm == .constSpeed) = true) ∧
    Inv (moving .dec 0 600 99999) ∧
    (∃ t, exec .tick (moving .dec 0 600 99999) = .next t ∧ (t.fsm == .dec) = true) :=
  ⟨by constructor <;> decide, exists_of_sees (by decide +kernel), by constructor <;> decide,
    exists_of_sees (by decide +kernel)⟩

theorem witness_ZeroMaxSpeedHangsInConstSpeed :
    let s : State := { moving .constSpeed 5 0 100 with maxSpeed := 0 }
    s.cfg.stepClocks = 1 ∧ s.busyLeft = 0 ∧ s.maxSpeed = 0 ∧ s.fsm = .constSpeed ∧ s.vel = 0 := by
  decide

/-- With L = 2 the premise of the last clause holds from n = 1 on. -/
theorem witness_SettlingTakesExactlyLTicks :
    Inv (moving .standstill 98 3 100) ∧ (moving .standstill 98 3 100).cfg.stepClocks = 1 ∧
    (moving .standstill 98 3 100).fsm = .standstill ∧
    (moving .standstill 98 3 100).jog = .zero ∧
    2 ^ (moving .standstill 98 3 100).cfg.log2L ≤ 1 + 1 :=
  ⟨by constructor <;> decide, by decide, by decide, by decide, by decide⟩

/-- The mirror image of a moving state. -/
def mirrorImage : State :=
  { moving .acc (-5) (-10) (-100) with dir := .neg }

theorem witness_TickCommutesWithMirror :
    Mirrored (moving .acc 5 10 100) mirrorImage ∧ (moving .acc 5 10 100).busyLeft = 0 ∧
    mirrorImage.busyLeft = 0 ∧ (moving .acc 5 10 100).maxAccel ≠ 0 ∧
    (moving .acc 5 10 100).vel ≠ 0x80000000#32 ∧
    (moving .acc 5 10 100).pos.toInt.natAbs < 2 ^ 62 ∧
    (moving .acc 5 10 100).target.toInt.natAbs < 2 ^ 62 ∧
    (∃ t, exec .tick (moving .acc 5 10 100) = .next t) ∧ ∃ t, exec .tick mirrorImage = .next t :=
  ⟨by constructor <;> decide, by decide, by decide, by decide, by decide, by decide, by decide,
    ⟨_, rfl⟩, ⟨_, rfl⟩⟩

/-- TickReadsNoInterfaceRegister, DutyPairsAreComplementary. -/
theorem witness_performed_tick :
    (moving .acc 5 10 100).cfg.wf = true ∧ (moving .acc 5 10 100).busyLeft = 0 ∧
    ∃ t, exec .tick (moving .acc 5 10 100) = .next t :=
  ⟨by decide, rfl, _, rfl⟩

theorem witness_LutIsTheRoundedRealSine :
    small.wf = true ∧ 0 < 2 ^ small.lutBits ∧ 15 < 2 ^ small.lutBits := by decide

/-- A set bit that a write clears, one that it keeps. -/
theorem witness_ErrorBitsAreSticky :
    (∃ t, exec (.wrErr 1) { resting 0 with err := 3 } = .next t) ∧
    State.hasErr { resting 0 with err := 3 } .posOvf = true ∧
    State.hasErr { resting 0 with err := 3 } .cmdRej = true :=
  ⟨⟨_, rfl⟩, by decide, by decide⟩

/-- Each error bit but CAP, which no operation sets, after an operation that sets it; and CAP where
it was set before. -/
theorem witness_ErrorBitsHaveTheirCausesOnly :
    (∃ t, exec .tick (moving .acc (2 ^ 63 - 1) 10 100) = .next t ∧ t.hasErr .posOvf = true) ∧
    (∃ t, exec .tick (moving .brake (2 ^ 63 - 1) 10 100) = .next t ∧ t.hasErr .posOvf = true) ∧
    (∃ t, exec .cmdBrake (resting 0) = .next t ∧ t.hasErr .cmdRej = true) ∧
    (∃ t, exec (.wrJogDir 2) (resting 0) = .next t ∧ t.hasErr .cfgRej = true) ∧
    (∃ t, exec .cmdNop { resting 0 with err := 8 } = .next t ∧ t.hasErr .cap = true) ∧
    (∃ t, exec .tick { resting 0 with busyLeft := 1 } = .next t ∧ t.hasErr .tickLost = true) :=
  ⟨exists_of_sees (by decide +kernel), exists_of_sees (by decide +kernel),
    exists_of_sees (by decide), exists_of_sees (by decide), exists_of_sees (by decide),
    exists_of_sees (by decide)⟩

theorem witness_OnlyTheTriggerLeavesWait :
    (resting 100).fsm = .wait ∧
    ∃ t, exec .tick (resting 100) = .next t ∧ (t.fsm != .wait) = true :=
  ⟨by decide, exists_of_sees (by decide +kernel)⟩

/-- Each kind of register, changed by an operation. -/
theorem witness_RegistersHaveTheirWritersOnly :
    (∃ t, exec .tick (resting 100) = .next t ∧
      (t.duty != (resting 100).duty && t.pos != (resting 100).pos &&
        t.vel != (resting 100).vel) = true) ∧
    (∃ t, exec (.wrMaxSpeed 7) (resting 100) = .next t ∧
      (t.maxSpeed != (resting 100).maxSpeed) = true) ∧
    (∃ t, exec (.wrMaxAccel 7) (resting 100) = .next t ∧
      (t.maxAccel != (resting 100).maxAccel) = true) :=
  ⟨exists_of_sees (by decide +kernel), exists_of_sees (by decide), exists_of_sees (by decide)⟩

theorem witness_JumpSequenceAtRest : (resting 100).fsm = .wait := by decide

end Sys2Proof.Tests
end

/-! ## The family of the state: which operation writes what, the reads and the window, the reset
state, what every step keeps, and what a tick does not read (10_state.md) -/

namespace Sys2Proof.Machine

/-! ### What an operation can do -/

/-- What an operation that answers a next state has done to `s`: one case for each kind of write of
42_host_operations.md, and the two strobes. -/
inductive Effect (s : State) : Instr → State → Prop
  /-- At most BUS_RDATA, the latches and the holding registers are written (10_state.md R35). -/
  | port (i : Instr) (tlo th ph fh rd : Word) (arg : BitVec 64) :
      Effect s i { s with
        tloHold := tlo, targetHiLatch := th, posHiLatch := ph, fposHiLatch := fh, busRdata := rd
        jumpArg := arg }
  /-- ERR alone is written, and CAP is not set (60_exceptions.md R161). -/
  | err (i : Instr) (e : BitVec 5)
      (keepsCap : s.hasErr .cap = false → e.getLsbD (errIndex .cap) = false) :
      Effect s i { s with err := e }
  /-- A write of TARGET or JOG (42_host_operations.md R140, R141). -/
  | setpoint (i : Instr) (x : Pos) (j : Dir) :
      Effect s i (State.noteSetpoint { s with target := x, jog := j })
  /-- A legal write of MAX_SPEED (R142). -/
  | maxSpeed (data : Word) (v : BitVec 31) :
      Effect s (.wrMaxSpeed data) (State.noteSetpoint { s with maxSpeed := v })
  /-- A legal write of MAX_ACCEL (R143). -/
  | maxAccel (data : Word) (v : BitVec 31) (nonzero : v ≠ 0) :
      Effect s (.wrMaxAccel data) (State.noteSetpoint { s with maxAccel := v })
  /-- An accepted UPDATE outside WAIT (R149). -/
  | update (inMotion : s.fsm ≠ .wait) (notBraking : s.fsm ≠ .brake) :
      Effect s .cmdUpdate { s with fsm := .start, spDirty := false }
  /-- An accepted BRAKE (R150). -/
  | brake (integrating : isIntegrating s.fsm = true) : Effect s .cmdBrake { s with fsm := .brake }
  /-- An accepted JUMP (R151). -/
  | jump (atRest : s.fsm = .wait) :
      Effect s .cmdJump (s.jumpTo (s64 (hi32 s.jumpArg) (lo32 s.jumpArg)))
  /-- A performed tick (40_engine_fsm.md R78). -/
  | tick (accepted : s.busyLeft = 0) (defined : s.brakeDividesByZero = false) :
      Effect s .tick { s.tickPhases with busyLeft := s.cfg.stepClocks - 1 }
  /-- RESET (70_reset_and_hazards.md R178). -/
  | reset : Effect s .reset s.clear

/-- Raising any error but CAP is a write of ERR that does not set CAP. -/
theorem Effect.raise (s : State) (i : Instr) (e : ErrBit) (h : e ≠ .cap) :
    Effect s i (s.raise e) :=
  .err i _ fun hc => by
    rw [getLsbD_or_errMask, decide_eq_false h.symm, Bool.or_false]; exact hc

/-- Write 1 to clear sets no bit (10_state.md R44). -/
theorem getLsbD_errClear_of_clear (data : Word) (err : BitVec 5) (n : Nat)
    (h : err.getLsbD n = false) : (errClear data err).getLsbD n = false := by
  simp [errClear, h]

/-- A legal DATA of WR_MAX_ACCEL is at least 1 (42_host_operations.md R143). -/
theorem maxAccelOperand_ne_zero (data : Word) (v : BitVec 31)
    (h : maxAccelOperand data = some v) : v ≠ 0 := by
  unfold maxAccelOperand at h
  split at h
  · cases h
  · rename_i hd
    cases h
    obtain ⟨hne, htop⟩ : data ≠ 0 ∧ data.getLsbD 31 = false := by simpa using hd
    intro hz
    have hlow : data.toNat % 2 ^ 31 = 0 := by
      simpa using congrArg BitVec.toNat hz
    have hlt : data.toNat < 2 ^ 31 := by
      have := BitVec.msb_eq_false_iff_two_mul_lt.1 ((BitVec.msb_eq_getLsbD_last data).trans htop)
      omega
    exact hne (BitVec.eq_of_toNat_eq ((Nat.mod_eq_of_lt hlt).symm.trans hlow))

/-- Every operation that answers a next state has one of the effects. -/
theorem exec_effect (i : Instr) (s t : State) (h : exec i s = .next t) : Effect s i t := by
  cases i with
  | rdCmd | rdStatus | rdErr | rdParam | rdRange | rdTicks | rdTargetLo | rdTargetHi | rdJogDir
  | rdMaxSpeed | rdMaxAccel | rdJumpLo | rdJumpHi | rdPosLo | rdPosHi | rdVel | rdAngle | rdFposLo
  | rdFposHi | rdDuty0 | rdDuty1 | rdDuty2 | rdDuty3 | rdRsvd | wrTargetLo | wrJumpLo | wrJumpHi
  | wrRo | wrRsvd | cmdNop =>
    cases h; exact .port _ _ _ _ _ _ _
  | wrErr data => cases h; exact .err _ _ (getLsbD_errClear_of_clear _ _ _)
  | wrTargetHi data => cases h; exact .setpoint _ _ _
  | wrJogDir data =>
    change execWrJogDir data s = _ at h
    unfold execWrJogDir at h
    split at h <;> cases h
    · exact .setpoint _ _ _
    · exact .raise _ _ _ (by decide)
  | wrMaxSpeed data =>
    change execWrMaxSpeed data s = _ at h
    unfold execWrMaxSpeed at h
    split at h <;> cases h
    · exact .maxSpeed _ _
    · exact .raise _ _ _ (by decide)
  | wrMaxAccel data =>
    change execWrMaxAccel data s = _ at h
    unfold execWrMaxAccel at h
    split at h <;> cases h
    · exact .maxAccel _ _ (maxAccelOperand_ne_zero _ _ ‹_›)
    · exact .raise _ _ _ (by decide)
  | cmdUpdate =>
    change execCmdUpdate s = _ at h
    unfold execCmdUpdate at h
    split at h <;> cases h
    · exact .port _ _ _ _ _ _ _
    · exact .raise _ _ _ (by decide)
    all_goals exact .update (by simp [*]) (by simp [*])
  | cmdBrake =>
    change execCmdBrake s = _ at h
    unfold execCmdBrake at h
    split at h <;> cases h
    iterate 4 exact .brake (by simp [*, isIntegrating])
    all_goals exact .raise _ _ _ (by decide)
  | cmdJump =>
    change execCmdJump s = _ at h
    unfold execCmdJump at h
    split at h <;> cases h
    · exact .jump ‹_›
    all_goals exact .raise _ _ _ (by decide)
  | cmdRsvd data => cases h; exact .raise _ _ _ (by decide)
  | tick =>
    obtain ⟨-, rfl⟩ | ⟨hbusy, hdiv, rfl⟩ := execTick_next s t h
    · exact .raise _ _ _ (by decide)
    · exact .tick hbusy hdiv
  | reset => cases h; exact .reset

/-! ### Who writes which register -/

/-- No effect makes MAX_ACCEL 0 (10_state.md R28). -/
theorem Effect.maxAccel_ne_zero {i : Instr} {s t : State} (e : Effect s i t)
    (h : s.maxAccel ≠ 0) : t.maxAccel ≠ 0 := by
  cases e with
  | maxAccel _ _ nonzero => exact nonzero
  | tick => exact (tickPhases_limits s).2.2 ▸ h
  | reset => exact (by decide : (1 : BitVec 31) ≠ 0)
  | port | err | setpoint | maxSpeed | update | brake | jump => exact h

/-- Settles O14: no effect of an operation makes MAX_ACCEL 0. -/
theorem maxAccelStaysPositive : Obligations.MaxAccelStaysPositive := by
  intro i s t h ht
  have hne := (exec_effect i s t ht).maxAccel_ne_zero h
  exact Nat.one_le_iff_ne_zero.2 fun hz => hne (BitVec.eq_of_toNat_eq hz)

/-- Settles O58, by the effects of an operation. -/
theorem registersHaveTheirWritersOnly : Obligations.RegistersHaveTheirWritersOnly := by
  intro i s t ht
  cases exec_effect i s t ht with
  | tick =>
    obtain ⟨hcfg, hspeed, haccel⟩ := tickPhases_limits s
    simp [hcfg, hspeed, haccel]
  | reset => simp [State.clear]
  | jump => simp [State.jumpTo]
  | port | err | setpoint | maxSpeed | maxAccel | update | brake => simp

/-- Where a tick divides by 0 (40_engine_fsm.md R91). -/
theorem brakeDividesByZero_iff (s : State) :
    s.brakeDividesByZero = true ↔ s.fsm = .brake ∧ s.vel ≠ 0 ∧ s.maxAccel = 0 := by
  simp [State.brakeDividesByZero, and_assoc]

/-- Settles O38: the request is accepted and the tick meets the division. -/
theorem brakeTickStopsOnZeroMaxAccel : Obligations.BrakeTickStopsOnZeroMaxAccel := by
  intro s hbusy hfsm hvel haccel
  have hdiv := (brakeDividesByZero_iff s).2 ⟨hfsm, hvel, haccel⟩
  change execTick s = _
  simp [execTick, State.busy, hbusy, hdiv]

/-! ### The reads and the register window -/

/-- A read drives the window's word on BUS_RDATA (10_state.md R41, 20_memory.md R53). -/
theorem exec_readOp (s : State) (w : WordIndex) :
    ∃ t, exec (readOp w) s = .next t ∧ t.busRdata = s.window w := by
  unfold readOp State.window
  split
  all_goals exact ⟨_, rfl, by simp [*]⟩

/-- The filter of a cleared state stands at 0 (10_state.md R33). -/
theorem fpos_clear (s : State) : s.clear.fpos = 0 := by simp [State.clear, State.fpos, asr]

/-- Both FPOS words of a cleared state are 0. -/
theorem fposBits_clear (s : State) : s.clear.fposBits = 0 := by
  simp [State.fposBits, fpos_clear]

/-- ANGLE of a cleared state is 0. -/
theorem angleWord_clear (s : State) : s.clear.angleWord = 0 := by
  simp [State.angleWord, State.angle, fpos_clear]

/-- STATUS of a cleared state is 0. -/
theorem statusWord_clear (s : State) : s.clear.statusWord = 0 := by
  simp only [State.statusWord, State.settling, State.clear]; decide

/-- The words that the build and MAX_ACCEL do not fill read 0 after RESET (10_state.md R49). -/
theorem window_clear_eq_zero (s : State) (w : WordIndex) (h3 : w ≠ 3) (h4 : w ≠ 4)
    (h10 : w ≠ 10) : s.clear.window w = 0 := by
  unfold State.window
  split
  case h_3 hw => exact absurd (BitVec.eq_of_toNat_eq hw) h3
  case h_4 hw => exact absurd (BitVec.eq_of_toNat_eq hw) h4
  case h_10 hw => exact absurd (BitVec.eq_of_toNat_eq hw) h10
  case h_1 => exact statusWord_clear s
  case h_12 => exact (by decide : hi32 0 = 0)
  case h_16 => exact angleWord_clear s
  case h_17 => rw [fposBits_clear]; rfl
  all_goals rfl

/-- The window after RESET (10_state.md R49, 95_test_vectors.md L2.6). -/
theorem window_clear (s : State) (w : WordIndex) :
    s.clear.window w =
      if w = 3 then paramWord s.cfg else if w = 4 then rangeWord s.cfg
      else if w = 10 then 1 else 0 := by
  split_ifs with h3 h4 h10
  · rw [h3]; rfl
  · rw [h4]; rfl
  · rw [h10]; rfl
  · exact window_clear_eq_zero s w h3 h4 h10

/-- Settles O11: the reads answer the window, and RESET answers the cleared state. -/
theorem readsReturnTheWindowAndResetClearsIt :
    Obligations.ReadsReturnTheWindowAndResetClearsIt := by
  refine ⟨fun s w d => ⟨decodeRequest_requestOf false w d, exec_readOp s w⟩, fun s t w h => ?_⟩
  cases h
  exact window_clear s w

/-! ### Facts the invariant rests on -/

/-- L is at least 1 (00_scope.md R6). -/
theorem len_pos (c : Config) : 0 < c.len := Nat.two_pow_pos c.log2L

/-- A legal RANGE is positive (00_scope.md R6). -/
theorem range_pos (c : Config) (h : c.wf = true) : 0 < c.range := by
  simp only [Config.wf, Bool.and_eq_true, decide_eq_true_eq] at h
  omega

/-- What the search of the LUT finds has every property of its start that the test enforces. -/
theorem greatest_induct (P : Nat → Prop) (ok : Nat → Bool) (hok : ∀ n, ok n = true → P n) :
    ∀ i n, P n → P (greatest ok i n) := by
  intro i
  induction i with
  | zero => intro n hn; exact hn
  | succ i ih =>
    intro n hn
    rw [greatest]
    apply ih
    split
    · exact hok _ ‹_›
    · exact hn

/-- An entry of the LUT is below RANGE (41_filter_commutator.md R109). -/
theorem lutEntry_lt (range m j : Nat) (h : 0 < range) : lutEntry range m j < range :=
  greatest_induct (· < range) _ (fun n hn => by simp [entryAtLeast] at hn; exact hn.1) 16 0 h

/-- The latched duty values are below RANGE (10_state.md R34). -/
theorem commutate_lt_range (c : Config) (angle : Nat) (h : 0 < c.range) :
    (commutate c angle).d0.toNat < c.range ∧ (commutate c angle).d1.toNat < c.range ∧
      (commutate c angle).d2.toNat < c.range ∧ (commutate c angle).d3.toNat < c.range := by
  have entry (j : Nat) : lutEntry c.range (c.lutBits - 1) j % 2 ^ 16 < c.range :=
    lt_of_le_of_lt (Nat.mod_le _ _) (lutEntry_lt _ _ _ h)
  simp only [commutate, lutS, lutT, BitVec.toNat_ofNat]
  exact ⟨entry _, entry _, entry _, entry _⟩

/-- A velocity inside the symmetric range is not the code 0x80000000 (40_engine_fsm.md R93). -/
theorem velCode_ne_min (x : Int) (h : -2 ^ 31 < x) (h' : x < 2 ^ 31) :
    BitVec.ofInt 32 x ≠ 0x80000000#32 := by
  intro hx
  have hval := toInt_ofInt_32 x h.le h'
  rw [hx, show (0x80000000#32).toInt = -2 ^ 31 by decide] at hval
  omega

/-- The speed along DIR stays in the symmetric range where VEL does. -/
theorem vd_bounds (s : State) (h : s.vel ≠ 0x80000000#32) : -2 ^ 31 < s.vd ∧ s.vd < 2 ^ 31 := by
  have hrange := vel_range s.vel
  have hmin : s.vel.toInt ≠ -2 ^ 31 := fun hx =>
    h (BitVec.eq_of_toInt_eq (hx.trans (by decide)))
  unfold State.vd
  cases s.dir <;> simp only [dirInt] <;> omega

/-- The range of MAX_SPEED (10_state.md R26). -/
theorem speedLimit_bounds (s : State) : 0 ≤ s.speedLimit ∧ s.speedLimit < 2 ^ 31 := by
  have := s.maxSpeed.isLt
  unfold State.speedLimit; omega

/-- MAX_ACCEL is not negative (10_state.md R27). -/
theorem accelLimit_nonneg (s : State) : 0 ≤ s.accelLimit := Int.natCast_nonneg _

/-- A direction times a speed of the symmetric range stays in it. -/
theorem dirInt_mul_bounds (d : Dir) (v : Int) (h : -2 ^ 31 < v ∧ v < 2 ^ 31) :
    -2 ^ 31 < dirInt d * v ∧ dirInt d * v < 2 ^ 31 := by
  cases d <;> simp only [dirInt] <;> omega

/-- A velocity other than 0 has a direction (40_engine_fsm.md R91). -/
theorem signDir_vel_ne_zero (v : BitVec 32) (h : v ≠ 0) : signDir v.toInt ≠ .zero := fun hz =>
  h (BitVec.eq_of_toInt_eq (by simpa using (signDir_eq_zero _).1 hz))

/-- An integrating state is not WAIT (00_scope.md R16). -/
theorem ne_wait_of_isIntegrating {f : Fsm} (h : isIntegrating f = true) : f ≠ .wait := by
  rintro rfl; cases h

/-- An exit of the finite mode never leads to WAIT (40_engine_fsm.md R83). -/
theorem finiteExit_ne_wait (s : State) (f : Fsm) (hf : f ≠ .wait) :
    s.finiteExit.getD f ≠ .wait := by
  rw [finiteExit_getD]
  split_ifs
  · decide
  · decide
  · exact hf

/-! ### What the FSM phase keeps -/

/-- The part of `Inv` about the engine and FCOUNT, which every handler keeps. SP_DIRTY is left out:
STANDSTILL enters WAIT before phase 5 clears it (40_engine_fsm.md R78). -/
structure EngineInv (s : State) : Prop where
  accelPos : s.maxAccel ≠ 0
  movingIff : s.moving = true ↔ s.fsm ≠ .wait
  restVel : s.fsm = .wait → s.vel = 0
  restDir : s.fsm = .wait → s.dir = .zero
  dirSet : isIntegrating s.fsm = true → s.dir ≠ .zero
  velBound : s.vel ≠ 0x80000000#32
  fcountInRange : s.fcount ≤ s.cfg.len
  fcountMoving : s.fsm ≠ .wait → s.fcount = s.cfg.len

/-- The invariant holds of the engine. -/
theorem Inv.engine {s : State} (h : Inv s) : EngineInv s := { h with }

/-- Phase 1 lowers FCOUNT at rest alone (41_filter_commutator.md R101). -/
theorem EngineInv.countdown {s : State} (h : EngineInv s) : EngineInv s.countdown :=
  { h with
    fcountInRange := by
      have := h.fcountInRange
      simp only [countdown_fcount, countdown_cfg]
      split <;> omega
    fcountMoving := fun hf => by
      have hm : s.moving = true := h.movingIff.2 hf
      simpa [hm] using h.fcountMoving hf }

/-- The integration of a new speed of the symmetric range along DIR, with an exit that is not WAIT
(40_engine_fsm.md R82, R93, R94). -/
theorem EngineInv.integrate {s : State} (h : EngineInv s) (hs : isIntegrating s.fsm = true)
    (v : Int) (hv : -2 ^ 31 < v ∧ v < 2 ^ 31) (f : Fsm) (hf : f ≠ .wait) :
    EngineInv { s.integrate (dirInt s.dir * v) with fsm := f } := by
  have hmoving := ne_wait_of_isIntegrating hs
  have hbounds := dirInt_mul_bounds s.dir v hv
  exact {
    accelPos := h.accelPos
    movingIff := iff_of_true (h.movingIff.2 hmoving) hf
    restVel := fun hw => absurd hw hf
    restDir := fun hw => absurd hw hf
    dirSet := fun _ => h.dirSet hs
    velBound := velCode_ne_min _ hbounds.1 hbounds.2
    fcountInRange := h.fcountInRange
    fcountMoving := fun _ => h.fcountMoving hmoving }

/-- A change of the FSM state and of DIR in motion (40_engine_fsm.md R23, R94). -/
theorem EngineInv.goTo {s : State} (h : EngineInv s) (hs : s.fsm ≠ .wait) (d : Dir) (f : Fsm)
    (hf : f ≠ .wait) (hd : isIntegrating f = true → d ≠ .zero) :
    EngineInv { s with dir := d, fsm := f } :=
  { h with
    movingIff := iff_of_true (h.movingIff.2 hs) hf
    restVel := fun hw => absurd hw hf
    restDir := fun hw => absurd hw hf
    dirSet := hd
    fcountMoving := fun _ => h.fcountMoving hs }

/-- WAIT (40_engine_fsm.md R84): a trigger sets MOVING and FCOUNT. -/
theorem EngineInv.handleWait {s : State} (h : EngineInv s) :
    EngineInv (handleWait s).state := by
  unfold Machine.handleWait
  split
  · exact { h with
      movingIff := by simp [HandlerEnd.state]
      restVel := fun hw => by cases hw
      restDir := fun hw => by cases hw
      dirSet := fun hi => by cases hi
      fcountInRange := le_rfl
      fcountMoving := fun _ => rfl }
  · exact h

/-- START (40_engine_fsm.md R85): ACC and DEC are entered with a direction. -/
theorem EngineInv.handleStart {s : State} (h : EngineInv s) (hs : s.fsm = .start) :
    EngineInv (handleStart s).state := by
  have hmoving : s.fsm ≠ .wait := by simp [hs]
  unfold Machine.handleStart
  split_ifs with hzero
  · exact h.goTo hmoving s.dir .standstill (by decide) (fun hi => by cases hi)
  · exact h.goTo hmoving s.startDir .acc (by decide) fun _ => hzero
  · exact h.goTo hmoving s.startDir .dec (by decide) fun _ => hzero

/-- ACC (40_engine_fsm.md R86): the new speed lies between the old one and MAX_SPEED. -/
theorem EngineInv.handleAcc {s : State} (h : EngineInv s) (hs : s.fsm = .acc) :
    EngineInv (handleAcc s).state := by
  refine h.integrate (by simp [hs, isIntegrating]) s.accSpeed ?_ _ (finiteExit_ne_wait _ _ ?_)
  · have := vd_bounds s h.velBound
    have := speedLimit_bounds s
    have := accelLimit_nonneg s
    unfold State.accSpeed; omega
  · split
    · decide
    · simp [hs]

/-- DEC (40_engine_fsm.md R87). -/
theorem EngineInv.handleDec {s : State} (h : EngineInv s) (hs : s.fsm = .dec) :
    EngineInv (handleDec s).state := by
  refine h.integrate (by simp [hs, isIntegrating]) s.decSpeed ?_ _ ?_
  · have := vd_bounds s h.velBound
    have := speedLimit_bounds s
    have := accelLimit_nonneg s
    unfold State.decSpeed; omega
  · split
    · decide
    · simp [hs]

/-- CONST_SPEED (40_engine_fsm.md R88). -/
theorem EngineInv.handleConstSpeed {s : State} (h : EngineInv s) (hs : s.fsm = .constSpeed) :
    EngineInv (handleConstSpeed s).state := by
  refine h.integrate (by simp [hs, isIntegrating]) s.speedLimit ?_ _
    (finiteExit_ne_wait _ _ (by simp [hs]))
  have := speedLimit_bounds s
  omega

/-- DEC_TO_ZERO (40_engine_fsm.md R89): the new speed lies between 0 and the old one. -/
theorem EngineInv.handleDecToZero {s : State} (h : EngineInv s) (hs : s.fsm = .decToZero) :
    EngineInv (handleDecToZero s).state := by
  unfold Machine.handleDecToZero
  split
  · exact h.goTo (by simp [hs]) s.dir .standstill (by decide) (fun hi => by cases hi)
  · refine h.integrate (by simp [hs, isIntegrating]) s.stopSpeed ?_ _ ?_
    · have := vd_bounds s h.velBound
      have : 1 ≤ s.stopDecel := le_max_left _ _
      unfold State.stopSpeed; omega
    · split
      · decide
      · simp [hs]

/-- STANDSTILL (40_engine_fsm.md R90): the engine comes to rest. -/
theorem EngineInv.handleStandstill {s : State} (h : EngineInv s) :
    EngineInv (handleStandstill s).state :=
  { h with
    movingIff := by simp [Machine.handleStandstill, HandlerEnd.state]
    restVel := fun _ => rfl
    restDir := fun _ => rfl
    dirSet := fun hi => by cases hi
    velBound := by simp [Machine.handleStandstill, HandlerEnd.state]
    fcountMoving := fun hf => absurd rfl hf }

/-- BRAKE (40_engine_fsm.md R91): a direction is set where the engine moves. -/
theorem EngineInv.handleBrake {s : State} (h : EngineInv s) (hs : s.fsm = .brake) :
    EngineInv (handleBrake s).state := by
  have hmoving : s.fsm ≠ .wait := by simp [hs]
  unfold Machine.handleBrake
  split_ifs with hvel
  · exact { h.goTo hmoving s.dir .standstill (by decide) (fun hi => by cases hi) with }
  · exact { h.goTo hmoving (signDir s.vel.toInt) .decToZero (by decide)
      (fun _ => signDir_vel_ne_zero s.vel hvel) with }

/-- Every handler keeps the engine's invariant (40_engine_fsm.md R79). -/
theorem EngineInv.handle {s : State} (h : EngineInv s) : EngineInv (handle s).state := by
  unfold Machine.handle
  split
  · exact h.handleWait
  · exact h.handleStart ‹_›
  · exact h.handleAcc ‹_›
  · exact h.handleDec ‹_›
  · exact h.handleConstSpeed ‹_›
  · exact h.handleDecToZero ‹_›
  · exact h.handleStandstill
  · exact h.handleBrake ‹_›

/-- What every handler keeps, the FSM phase keeps (40_engine_fsm.md R79). -/
theorem runFsm_keeps (P : State → Prop) (hP : ∀ s, P s → P (handle s).state) (s : State)
    (h : P s) : P s.runFsm := by
  obtain ⟨u, hu, hd⟩ := runFsm_ends P
    (fun a b ha hab => by have hb := hP a ha; rw [hab] at hb; exact hb) s h
  have hend := hP u hu
  rw [hd] at hend; exact hend

/-- No handler sets ERR.CAP (40_engine_fsm.md R96). -/
theorem handle_capClear (s : State) (h : s.hasErr .cap = false) :
    (handle s).state.hasErr .cap = false := by
  unfold State.hasErr at h ⊢
  obtain he | he := handle_err s <;> rw [he]
  · exact h
  · rw [getLsbD_or_errMask, h]; rfl

/-! ### What the filter keeps -/

/-- The part of `Inv` about the build and the filter (41_filter_commutator.md R103, R104). -/
structure FilterInv (s : State) : Prop where
  cfgLegal : s.cfg.wf = true
  bufLength : s.buf.length = s.cfg.len
  sumIsTotal : s.sum = bufTotal s.buf
  widxInRange : s.widx < s.cfg.len

/-- The engine phase leaves the filter alone. -/
theorem FilterInv.of_sameOutsideEngine {s t : State} (h : FilterInv s)
    (same : SameOutsideEngine s t) : FilterInv t where
  cfgLegal := by rw [same.cfg]; exact h.cfgLegal
  bufLength := by rw [same.buf, same.cfg]; exact h.bufLength
  sumIsTotal := by rw [same.sum, same.buf]; exact h.sumIsTotal
  widxInRange := by rw [same.widx, same.cfg]; exact h.widxInRange

/-- A push replaces one entry of BUF and moves SUM by the difference (41_filter_commutator.md
R103). -/
theorem FilterInv.push {s : State} (h : FilterInv s) : FilterInv s.push where
  cfgLegal := h.cfgLegal
  bufLength := by simpa using h.bufLength
  sumIsTotal := by
    have hw : s.widx < s.buf.length := h.bufLength ▸ h.widxInRange
    simp only [push_sum, push_buf, bufTotal_set _ _ _ hw, h.sumIsTotal, State.bufAt]
  widxInRange := Nat.mod_lt _ (len_pos _)

/-! ### What every operation and every edge keeps -/

/-- The reset state of a legal build (10_state.md R49). -/
theorem inv_resetOf (c : Config) (h : c.wf = true) : Inv (State.resetOf c) := by
  have hrange := range_pos c h
  exact {
    cfgLegal := h
    accelPos := by simp [State.resetOf]
    movingIff := by simp [State.resetOf]
    restVel := fun _ => rfl
    restDir := fun _ => rfl
    dirSet := fun hi => by cases hi
    velBound := by simp [State.resetOf]
    bufLength := by simp [State.resetOf]
    sumIsTotal := by simp [State.resetOf, bufTotal_replicate]
    widxInRange := len_pos c
    fcountInRange := Nat.zero_le _
    fcountMoving := fun hf => absurd rfl hf
    duty0InRange := hrange
    duty1InRange := hrange
    duty2InRange := hrange
    duty3InRange := hrange
    capClear := by simp [State.hasErr, State.resetOf]
    dirtyMoving := fun hd => by cases hd
    busyInRange := Nat.zero_le _ }

/-- Settles O12: the reset state of every legal build, and of the test build. -/
theorem invAtReset : Obligations.InvAtReset :=
  ⟨inv_resetOf, inv_resetOf Config.test (by decide)⟩

/-- RESET leads to the reset state of the build, but for the ports. -/
theorem Inv.clear {s : State} (h : Inv s) : Inv s.clear :=
  { inv_resetOf s.cfg h.cfgLegal with }

/-- A setpoint write sets SP_DIRTY in motion alone (10_state.md R37). -/
theorem Inv.noteSetpoint {s : State} (h : Inv s) : Inv s.noteSetpoint :=
  { h with
    dirtyMoving := fun hd => by
      rw [noteSetpoint_spDirty, Bool.or_eq_true, bne_iff_ne] at hd
      exact hd.elim h.dirtyMoving id }

/-- A command in motion that enters a state which does not integrate (42_host_operations.md R149,
R150). -/
theorem Inv.goTo {s : State} (h : Inv s) (hs : s.fsm ≠ .wait) (f : Fsm) (hf : f ≠ .wait)
    (hi : isIntegrating f = false) : Inv { s with fsm := f } :=
  { h.engine.goTo hs s.dir f hf (fun ht => by simp [hi] at ht), h with
    dirtyMoving := fun _ => hf }

/-- JUMP leaves the engine at rest and every entry of BUF at the new position
(42_host_operations.md R151). -/
theorem Inv.jumpTo {s : State} (h : Inv s) (hs : s.fsm = .wait) (x : Pos) : Inv (s.jumpTo x) :=
  { h with
    movingIff := by simp [State.jumpTo, hs]
    restVel := fun _ => rfl
    restDir := fun _ => rfl
    dirSet := fun hi => by simp [State.jumpTo, hs, isIntegrating] at hi
    velBound := by simp [State.jumpTo]
    bufLength := by simp [State.jumpTo]
    sumIsTotal := by simp [State.jumpTo, bufTotal_replicate]
    widxInRange := len_pos _
    fcountInRange := Nat.zero_le _
    fcountMoving := fun hf => absurd hs hf
    dirtyMoving := fun hd => by cases hd }

/-- Phases 3 to 6 of a tick, after an FSM phase that left `u`: the push keeps the filter's part, the
latched duties are entries of the LUT, and SP_DIRTY is cleared at rest (40_engine_fsm.md R78). -/
theorem inv_afterFsm {u : State} (engine : EngineInv u) (filter : FilterInv u)
    (cap : u.hasErr .cap = false) :
    Inv { u.push.latchDuty.clearDirtyAtRest.countTick with
      busyLeft := u.cfg.stepClocks - 1 } := by
  obtain ⟨h0, h1, h2, h3⟩ :=
    commutate_lt_range u.cfg u.push.angle (range_pos _ filter.cfgLegal)
  exact { engine, filter.push with
    duty0InRange := h0
    duty1InRange := h1
    duty2InRange := h2
    duty3InRange := h3
    capClear := by unfold State.hasErr at cap ⊢; exact cap
    dirtyMoving := fun hd => by
      simp only [countTick_spDirty, clearDirtyAtRest_spDirty, Bool.and_eq_true, bne_iff_ne] at hd
      exact hd.2
    busyInRange := le_rfl }

/-- A performed tick keeps the invariant: phase 1 and the FSM phase keep the engine's part and leave
the filter alone (40_engine_fsm.md R78). -/
theorem Inv.tick {s : State} (h : Inv s) :
    Inv { s.tickPhases with busyLeft := s.cfg.stepClocks - 1 } := by
  have same : SameOutsideEngine s.countdown s.countdown.runFsm := runFsm_frame _
  have engine : EngineInv s.countdown.runFsm :=
    runFsm_keeps EngineInv (fun _ hk => hk.handle) _ h.engine.countdown
  have cap : s.countdown.runFsm.hasErr .cap = false :=
    runFsm_keeps (fun u => u.hasErr .cap = false) handle_capClear _ h.capClear
  have filter : FilterInv s.countdown := { h with }
  have after := inv_afterFsm engine (filter.of_sameOutsideEngine same) cap
  rw [same.cfg] at after
  exact after

/-- Every effect of an operation keeps the invariant. -/
theorem Effect.keeps_inv {i : Instr} {s t : State} (e : Effect s i t) (h : Inv s) : Inv t := by
  cases e with
  | port => exact { h with }
  | err _ _ keepsCap => exact { h with capClear := keepsCap h.capClear }
  | setpoint => exact Inv.noteSetpoint { h with }
  | maxSpeed => exact Inv.noteSetpoint { h with }
  | maxAccel _ _ nonzero => exact Inv.noteSetpoint { h with accelPos := nonzero }
  | update inMotion _ =>
    exact { h.goTo inMotion .start (by decide) rfl with dirtyMoving := fun hd => by cases hd }
  | brake integrating =>
    exact h.goTo (ne_wait_of_isIntegrating integrating) .brake (by decide) rfl
  | jump atRest => exact h.jumpTo atRest _
  | tick => exact h.tick
  | reset => exact h.clear

/-- The operations of an edge keep the invariant, one after another (20_memory.md R62). -/
theorem runOps_keeps_inv (is : List Instr) (s t : State) (h : Inv s)
    (ht : runOps is s = .next t) : Inv t := by
  induction is generalizing s with
  | nil => cases ht; exact h
  | cons i is ih =>
    obtain ⟨u, hu, hrest⟩ := (runOps_cons_next i is s t).1 ht
    exact ih u ((exec_effect i s u hu).keeps_inv h) hrest

/-- The clocking of BUSY lowers the countdown or keeps it (20_memory.md R63). -/
theorem Inv.clockBusy {s : State} (h : Inv s) (accepted : Bool) : Inv (s.clockBusy accepted) :=
  { h with
    busyInRange := by
      have := h.busyInRange
      simp only [clockBusy_busyLeft, clockBusy_cfg]
      split <;> omega }

/-- Settles O13: the start of the edge, its operations and the clocking of BUSY keep the
invariant. -/
theorem stepKeepsInv : Obligations.StepKeepsInv := by
  intro s t h ht
  obtain ⟨u, hu, rfl⟩ := (runEdge_next s t s.currentEdge).1 ht
  have henter : Inv s.enterEdge := { h with }
  exact (runOps_keeps_inv _ _ u henter hu).clockBusy _

/-! ### What a tick does not read -/

/-- The registers of 10_state.md R35, SP_DIRTY (R37), TICKS (R38) and BUS_RDATA (20_memory.md
R53). -/
structure InterfaceRegs where
  tloHold : Word
  targetHiLatch : Word
  posHiLatch : Word
  fposHiLatch : Word
  busRdata : Word
  jumpArg : BitVec 64
  spDirty : Bool
  ticks : BitVec 32

/-- The state with other values in those registers. -/
def State.withInterface (s : State) (r : InterfaceRegs) : State :=
  { s with
    tloHold := r.tloHold, targetHiLatch := r.targetHiLatch, posHiLatch := r.posHiLatch
    fposHiLatch := r.fposHiLatch, busRdata := r.busRdata, jumpArg := r.jumpArg
    spDirty := r.spDirty, ticks := r.ticks }

/-- The same change in the state a handler leaves. -/
def HandlerEnd.withInterface (r : InterfaceRegs) : HandlerEnd → HandlerEnd
  | .again s => .again (s.withInterface r)
  | .done s => .done (s.withInterface r)

/-- A handler that ends by a condition ends so with the other values too. -/
theorem HandlerEnd.withInterface_ite (r : InterfaceRegs) (c : Prop) [Decidable c]
    (a b : HandlerEnd) :
    (if c then a else b).withInterface r =
      if c then a.withInterface r else b.withInterface r :=
  apply_ite _ c a b

/-- WAIT reads no interface register (40_engine_fsm.md R84). -/
theorem handleWait_withInterface (r : InterfaceRegs) (s : State) :
    handleWait (s.withInterface r) = (handleWait s).withInterface r := by
  unfold handleWait; rw [HandlerEnd.withInterface_ite]; rfl

/-- START reads no interface register (40_engine_fsm.md R85). -/
theorem handleStart_withInterface (r : InterfaceRegs) (s : State) :
    handleStart (s.withInterface r) = (handleStart s).withInterface r := by
  unfold handleStart; rw [HandlerEnd.withInterface_ite, HandlerEnd.withInterface_ite]; rfl

/-- DEC_TO_ZERO reads no interface register (40_engine_fsm.md R89). -/
theorem handleDecToZero_withInterface (r : InterfaceRegs) (s : State) :
    handleDecToZero (s.withInterface r) = (handleDecToZero s).withInterface r := by
  unfold handleDecToZero; rw [HandlerEnd.withInterface_ite]; rfl

/-- BRAKE reads no interface register (40_engine_fsm.md R91). -/
theorem handleBrake_withInterface (r : InterfaceRegs) (s : State) :
    handleBrake (s.withInterface r) = (handleBrake s).withInterface r := by
  unfold handleBrake; rw [HandlerEnd.withInterface_ite]; rfl

/-- No handler reads an interface register; the handlers without a condition do so by definition
(40_engine_fsm.md R79). -/
theorem handle_withInterface (r : InterfaceRegs) (s : State) :
    handle (s.withInterface r) = (handle s).withInterface r := by
  have hfsm : (s.withInterface r).fsm = s.fsm := rfl
  unfold handle
  rw [hfsm]
  cases s.fsm with
  | wait => exact handleWait_withInterface r s
  | start => exact handleStart_withInterface r s
  | acc | dec | constSpeed | standstill => rfl
  | decToZero => exact handleDecToZero_withInterface r s
  | brake => exact handleBrake_withInterface r s

/-- The re-dispatch loop reads no interface register (40_engine_fsm.md R79). -/
theorem dispatchLoop_withInterface (r : InterfaceRegs) (snap : State) (n : Nat) (s : State) :
    dispatchLoop (snap.withInterface r) n (s.withInterface r) =
      (dispatchLoop snap n s).withInterface r := by
  induction n generalizing s with
  | zero => rfl
  | succ n ih =>
    rw [dispatchLoop, dispatchLoop, handle_withInterface]
    cases handle s with
    | done t => rfl
    | again t => exact ih t

/-- The phases of a tick keep the holding registers and BUS_RDATA, clear SP_DIRTY where they end in
WAIT and count one tick, and do the same to everything else (40_engine_fsm.md R78). -/
theorem tickPhases_withInterface (r : InterfaceRegs) (s : State) :
    (s.withInterface r).tickPhases =
      s.tickPhases.withInterface { r with
        spDirty := r.spDirty && s.tickPhases.fsm != .wait, ticks := r.ticks + 1 } := by
  have hfsm : (s.withInterface r).countdown.runFsm = s.countdown.runFsm.withInterface r :=
    dispatchLoop_withInterface r s.countdown Config.cap s.countdown
  unfold State.tickPhases
  rw [hfsm]
  rfl

/-- SP_DIRTY after phase 5, with the test of WAIT read as a proposition. -/
theorem fsm_bne_wait (f : Fsm) : (f != .wait) = decide (f ≠ .wait) := by cases f <;> rfl

/-- A tick request in an idle state without the division by 0 performs a tick (40_engine_fsm.md
R78). -/
theorem exec_tick_performed (s : State) (hbusy : s.busyLeft = 0)
    (hdiv : s.brakeDividesByZero = false) :
    exec .tick s = .next { s.tickPhases with busyLeft := s.cfg.stepClocks - 1 } := by
  change execTick s = _
  simp [execTick, State.busy, hbusy, hdiv]

/-- Settles O52: the phases of a tick commute with other values in the interface registers. -/
theorem tickReadsNoInterfaceRegister : Obligations.TickReadsNoInterfaceRegister := by
  intro s t tlo th ph fh rd arg dirty k hbusy ht
  obtain ⟨hb, -⟩ | ⟨-, hdiv, rfl⟩ := execTick_next s t ht
  · exact absurd hbusy hb
  · have htick := exec_tick_performed (s.withInterface ⟨tlo, th, ph, fh, rd, arg, dirty, k⟩)
      hbusy hdiv
    rw [tickPhases_withInterface, fsm_bne_wait] at htick
    exact htick

end Sys2Proof.Machine

/-! ## The family of the clock edge and the register window: which operations an edge runs and in
which order, ticks at a BUSY edge, what a register write keeps, and where the words stand
(20_memory.md) -/

namespace Sys2Proof.Machine

/-! ### One edge -/

/-- No bus request is a tick request (30_encoding.md R70, R73). -/
theorem decodeRequest_ne_tick (q : Request) : decodeRequest q ≠ .tick := by
  unfold decodeRequest
  split
  · unfold writeOp
    split
    case h_1 => unfold commandOp; split <;> exact nofun
    case h_10 => split <;> exact nofun
    all_goals exact nofun
  · unfold readOp
    split <;> exact nofun

/-- An edge carries a tick request where TICK = 1 and RST = 0 (20_memory.md R62). -/
theorem tick_mem_decodeEdge_iff (e : Edge) :
    Instr.tick ∈ decodeEdge e ↔ e.tick = true ∧ e.rst = false := by
  have haccess : Instr.tick ∉ if e.busEn then [decodeRequest e.request] else [] := by
    split <;> simp [(decodeRequest_ne_tick e.request).symm]
  unfold decodeEdge
  cases e.rst with
  | true => simp
  | false => simp [haccess]

/-- A tick request of the edge starts a tick where BUSY is 0 (10_state.md R39). -/
theorem acceptsTick_eq (s : State) (e : Edge) :
    s.acceptsTick e = decide (Instr.tick ∈ decodeEdge e ∧ s.busyLeft = 0) := by
  rw [Bool.eq_iff_iff, decide_eq_true_iff, tick_mem_decodeEdge_iff]
  simp [State.acceptsTick, State.busy]

/-- The step takes the first of the coming edges (20_memory.md R50). -/
theorem step_eq_runEdge {s : State} {e : Edge} {rest : List Edge} (hin : s.inputs = e :: rest) :
    step s = s.runEdge e := by
  unfold step State.currentEdge; rw [hin]; rfl

/-- The state at the start of an edge, where the coming edges are listed. -/
theorem enterEdge_eq {s : State} {e : Edge} {rest : List Edge} (hin : s.inputs = e :: rest) :
    s.enterEdge = { s with
      inputs := rest
      busRdata := Config.freeRdata s.freeCount
      freeCount := s.freeCount + 1 } := by
  unfold State.enterEdge; rw [hin]; rfl

/-- Running one operation is its `exec`. -/
theorem runOps_singleton (i : Instr) (s : State) : runOps [i] s = exec i s := by
  rw [runOps]
  cases exec i s with
  | next t | fault r | refused r => rfl

/-- Settles O4: the edge runs its one operation and clocks BUSY, which a tick accepted at this edge
has just set. -/
theorem stepRunsThePresentedOperation : Obligations.StepRunsThePresentedOperation := by
  intro s i e rest hin hdecode
  have haccept : s.acceptsTick e = decide (i = .tick ∧ s.busyLeft = 0) := by
    simp [acceptsTick_eq, hdecode, eq_comm]
  rw [step_eq_runEdge hin, State.runEdge, hdecode, runOps_singleton, ← enterEdge_eq hin, haccept]
  cases exec i s.enterEdge with
  | next t => simp [State.clockBusy]
  | fault r | refused r => rfl

/-- An edge with RST = 1 carries RESET alone (20_memory.md R62). -/
theorem decodeEdge_of_rst {e : Edge} (hrst : e.rst = true) : decodeEdge e = [.reset] := by
  simp [decodeEdge, hrst]

/-- An edge with an access and TICK carries the access and then the tick (20_memory.md R62). -/
theorem decodeEdge_of_access_and_tick {e : Edge} (hrst : e.rst = false) (hbus : e.busEn = true)
    (htick : e.tick = true) : decodeEdge e = [decodeRequest e.request, .tick] := by
  simp [decodeEdge, hrst, hbus, htick]

/-- Settles O5: the decoded operations of the edge are run in their order. -/
theorem edgeOrderIsResetThenAccessThenTick : Obligations.EdgeOrderIsResetThenAccessThenTick := by
  intro s e rest hin
  refine ⟨fun hrst => ?_, fun hrst hbus htick s1 s2 haccess htickRun => ?_⟩
  · rw [stepRunsThePresentedOperation s .reset e rest hin (decodeEdge_of_rst hrst)]
    rfl
  · have hdecode := decodeEdge_of_access_and_tick hrst hbus htick
    have haccept : s.acceptsTick e = decide (s.busyLeft = 0) := by
      simp [acceptsTick_eq, hdecode]
    have hops : runOps (decodeEdge e) s.enterEdge = .next s2 := by
      rw [hdecode, runOps_cons_next, enterEdge_eq hin]
      exact ⟨s1, haccess, (runOps_singleton .tick s1).trans htickRun⟩
    rw [step_eq_runEdge hin, (runEdge_next s _ e).2 ⟨s2, hops, rfl⟩, haccept]
    simp [State.clockBusy]

/-! ### Set wins -/

/-- What a tick carries through without reading it: error bits that are already set, and the ports
with the model's own counter. -/
structure CarriedThrough where
  err : BitVec 5
  busRdata : Word
  inputs : List Edge
  freeCount : Nat

/-- The state with more error bits set and with other values of the ports. -/
def State.carrying (s : State) (c : CarriedThrough) : State :=
  { s with
    err := s.err ||| c.err, busRdata := c.busRdata, inputs := c.inputs, freeCount := c.freeCount }

/-- The same change in the state a handler leaves. -/
def HandlerEnd.carrying (c : CarriedThrough) : HandlerEnd → HandlerEnd
  | .again s => .again (s.carrying c)
  | .done s => .done (s.carrying c)

/-- A handler that ends by a condition ends so with the change too. -/
theorem HandlerEnd.carrying_ite (c : CarriedThrough) (p : Prop) [Decidable p]
    (a b : HandlerEnd) :
    (if p then a else b).carrying c = if p then a.carrying c else b.carrying c :=
  apply_ite _ p a b

/-- Setting one error bit and setting others commute (10_state.md R44). -/
theorem errSetIf_or (b : Bool) (m : ErrBit) (e others : BitVec 5) :
    errSetIf b m (e ||| others) = errSetIf b m e ||| others := by
  cases b with
  | false => rfl
  | true =>
    change e ||| others ||| errMask m = e ||| errMask m ||| others
    rw [BitVec.or_assoc, BitVec.or_comm others, BitVec.or_assoc]

/-- Integration adds POS_OVF to what ERR holds (40_engine_fsm.md R82). -/
theorem integrate_carrying (c : CarriedThrough) (s : State) (v : Int) :
    (s.carrying c).integrate v = (s.integrate v).carrying c := by
  have herr := errSetIf_or ((wrap64 (s.integratedPos v)).toInt != s.integratedPos v) .posOvf
    s.err c.err
  exact congrArg (fun e => { (s.integrate v).carrying c with err := e }) herr

/-- WAIT reads neither ERR nor a port (40_engine_fsm.md R84). -/
theorem handleWait_carrying (c : CarriedThrough) (s : State) :
    handleWait (s.carrying c) = (handleWait s).carrying c := by
  unfold handleWait; rw [HandlerEnd.carrying_ite]; rfl

/-- START reads neither ERR nor a port (40_engine_fsm.md R85). -/
theorem handleStart_carrying (c : CarriedThrough) (s : State) :
    handleStart (s.carrying c) = (handleStart s).carrying c := by
  unfold handleStart; rw [HandlerEnd.carrying_ite, HandlerEnd.carrying_ite]; rfl

/-- The exits of the finite mode read neither ERR nor a port (40_engine_fsm.md R83). -/
theorem finiteExit_carrying (c : CarriedThrough) (s : State) :
    (s.carrying c).finiteExit = s.finiteExit := rfl

/-- ACC reads no port, and of ERR only adds to it (40_engine_fsm.md R86). -/
theorem handleAcc_carrying (c : CarriedThrough) (s : State) :
    handleAcc (s.carrying c) = (handleAcc s).carrying c := by
  have hstep : (s.carrying c).accIntegrated = s.accIntegrated.carrying c := integrate_carrying c s _
  unfold handleAcc; rw [hstep, finiteExit_carrying]; rfl

/-- DEC reads no port, and of ERR only adds to it (40_engine_fsm.md R87). -/
theorem handleDec_carrying (c : CarriedThrough) (s : State) :
    handleDec (s.carrying c) = (handleDec s).carrying c := by
  unfold handleDec; rw [integrate_carrying]; rfl

/-- CONST_SPEED reads no port, and of ERR only adds to it (40_engine_fsm.md R88). -/
theorem handleConstSpeed_carrying (c : CarriedThrough) (s : State) :
    handleConstSpeed (s.carrying c) = (handleConstSpeed s).carrying c := by
  have hstep : (s.carrying c).cruiseIntegrated = s.cruiseIntegrated.carrying c :=
    integrate_carrying c s _
  unfold handleConstSpeed; rw [hstep, finiteExit_carrying]; rfl

/-- DEC_TO_ZERO reads no port, and of ERR only adds to it (40_engine_fsm.md R89). -/
theorem handleDecToZero_carrying (c : CarriedThrough) (s : State) :
    handleDecToZero (s.carrying c) = (handleDecToZero s).carrying c := by
  have hstep : (s.carrying c).stopIntegrated = s.stopIntegrated.carrying c :=
    integrate_carrying c s _
  unfold handleDecToZero; rw [HandlerEnd.carrying_ite, hstep]; rfl

/-- BRAKE reads no port, and of ERR only adds to it (40_engine_fsm.md R91). -/
theorem handleBrake_carrying (c : CarriedThrough) (s : State) :
    handleBrake (s.carrying c) = (handleBrake s).carrying c := by
  have herr : (s.carrying c).err = s.err ||| c.err := rfl
  unfold handleBrake; rw [HandlerEnd.carrying_ite, herr, errSetIf_or]; rfl

/-- No handler reads ERR or a port, and what it does to ERR is to add to it (40_engine_fsm.md
R79). -/
theorem handle_carrying (c : CarriedThrough) (s : State) :
    handle (s.carrying c) = (handle s).carrying c := by
  have hfsm : (s.carrying c).fsm = s.fsm := rfl
  unfold handle
  rw [hfsm]
  cases s.fsm with
  | wait => exact handleWait_carrying c s
  | start => exact handleStart_carrying c s
  | acc => exact handleAcc_carrying c s
  | dec => exact handleDec_carrying c s
  | constSpeed => exact handleConstSpeed_carrying c s
  | decToZero => exact handleDecToZero_carrying c s
  | standstill => rfl
  | brake => exact handleBrake_carrying c s

/-- Raising an error commutes with errors that are already set (60_exceptions.md R161). -/
theorem raise_carrying (c : CarriedThrough) (s : State) (m : ErrBit) :
    (s.carrying c).raise m = (s.raise m).carrying c :=
  congrArg (fun e => { (s.raise m).carrying c with err := e }) (errSetIf_or true m s.err c.err)

/-- The re-dispatch loop does so too; at the cap it adds ERR.CAP (40_engine_fsm.md R79). -/
theorem dispatchLoop_carrying (c : CarriedThrough) (snap : State) (n : Nat) (s : State) :
    dispatchLoop (snap.carrying c) n (s.carrying c) = (dispatchLoop snap n s).carrying c := by
  induction n generalizing s with
  | zero =>
    exact congrArg (fun e => { (State.restoreAtCap snap s).carrying c with err := e })
      (errSetIf_or true .cap s.err c.err)
  | succ n ih =>
    rw [dispatchLoop, dispatchLoop, handle_carrying]
    cases handle s with
    | done t => rfl
    | again t => exact ih t

/-- Phases 3 to 6 read neither ERR nor a port (40_engine_fsm.md R78). -/
theorem phasesAfterFsm_carrying (c : CarriedThrough) (u : State) :
    (u.carrying c).push.latchDuty.clearDirtyAtRest.countTick =
      u.push.latchDuty.clearDirtyAtRest.countTick.carrying c := rfl

/-- The phases of a tick keep the errors already set and the ports, and do the same to everything
else (40_engine_fsm.md R78). -/
theorem tickPhases_carrying (c : CarriedThrough) (s : State) :
    (s.carrying c).tickPhases = s.tickPhases.carrying c := by
  have hfsm : (s.carrying c).countdown.runFsm = s.countdown.runFsm.carrying c :=
    dispatchLoop_carrying c s.countdown Config.cap s.countdown
  unfold State.tickPhases
  rw [hfsm, phasesAfterFsm_carrying]

/-- A tick request adds to the errors that are already set, whether it is performed or lost
(40_engine_fsm.md R78, 60_exceptions.md R166). -/
theorem exec_tick_carrying (c : CarriedThrough) (s u : State) (h : exec .tick s = .next u) :
    exec .tick (s.carrying c) = .next (u.carrying c) := by
  obtain ⟨hbusy, rfl⟩ | ⟨hbusy, hdiv, rfl⟩ := execTick_next s u h
  · have hlost : exec .tick (s.carrying c) = .next ((s.carrying c).raise .tickLost) :=
      if_pos (bne_iff_ne.2 hbusy)
    rw [hlost, raise_carrying]
  · rw [exec_tick_performed (s.carrying c) hbusy hdiv, tickPhases_carrying]
    rfl

/-- A write access to word 2 is WR_ERR (30_encoding.md R73). -/
theorem decodeRequest_errWrite {e : Edge} (hwe : e.busWe = true) (hw : e.busW = 2) :
    decodeRequest e.request = .wrErr e.busWdata := by
  rw [Edge.request, decodeRequest_requestOf, hwe, hw]; rfl

/-- A write to ERR at an edge leaves the state with ERR = 0, but for the bits it keeps and what the
edge does to the ports (42_host_operations.md R138). -/
theorem exec_wrErr_enterEdge (s : State) (data : Word) :
    exec (.wrErr data) s.enterEdge = .next (State.carrying { s with err := 0 }
      ⟨errClear data s.err, Config.freeRdata s.freeCount, s.inputs.tail, s.freeCount + 1⟩) := by
  have hkept : errClear data s.err = 0 ||| errClear data s.err := BitVec.zero_or.symm
  exact congrArg (fun e => Host.Outcome.next { s.enterEdge with err := e }) hkept

/-- Settles O7: the tick after the clear does what it does from ERR = 0, and keeps beside it the
bits that the write left. -/
theorem tickErrorWinsOverSameEdgeClear : Obligations.TickErrorWinsOverSameEdgeClear := by
  intro s u e rest b hin hrst hbus htick hwe hw hclean hset
  have haccess := exec_wrErr_enterEdge s e.busWdata
  rw [enterEdge_eq hin, ← decodeRequest_errWrite hwe hw] at haccess
  refine ⟨_, (edgeOrderIsResetThenAccessThenTick s e rest hin).2 hrst hbus htick _ _ haccess
    (exec_tick_carrying _ _ u hclean), ?_⟩
  unfold State.hasErr at hset ⊢
  simp [State.carrying, hset]

/-! ### Ticks while BUSY -/

/-- A performed tick counts itself, and takes no further port values (40_engine_fsm.md R78). -/
theorem tickPhases_count (s : State) :
    s.tickPhases.ticks = s.ticks + 1 ∧ s.tickPhases.inputs = s.inputs := by
  have same := runFsm_frame s.countdown
  simp [State.tickPhases, same.ticks, same.inputs]

/-- An edge with TICK alone, where BUSY is 0 and the tick does not divide by 0, performs a tick
(20_memory.md R63). -/
theorem step_of_tick_idle {s : State} {rest : List Edge} (hin : s.inputs = Edge.ofTick :: rest)
    (hbusy : s.busyLeft = 0) (hdiv : s.brakeDividesByZero = false) :
    step s = .next { s.enterEdge.tickPhases with busyLeft := s.cfg.stepClocks - 1 } := by
  rw [stepRunsThePresentedOperation s .tick _ rest hin rfl, ← enterEdge_eq hin,
    exec_tick_performed s.enterEdge hbusy hdiv]
  simp [hbusy]

/-- An edge with TICK alone, where BUSY is 1, loses the request and clocks BUSY (20_memory.md R63,
60_exceptions.md R166). -/
theorem step_of_tick_busy {s : State} {rest : List Edge} (hin : s.inputs = Edge.ofTick :: rest)
    (hbusy : s.busyLeft ≠ 0) :
    step s = .next { s.enterEdge.raise .tickLost with busyLeft := s.busyLeft - 1 } := by
  have hlost : exec .tick s.enterEdge = .next (s.enterEdge.raise .tickLost) :=
    if_pos (bne_iff_ne.2 hbusy)
  rw [stepRunsThePresentedOperation s .tick _ rest hin rfl, ← enterEdge_eq hin, hlost]
  simp [hbusy]

/-- A run begins with its first step. -/
theorem run_succ_of_step {s t : State} (h : step s = .next t) (n : Nat) :
    Host.Core.run core (n + 1) s = Host.Core.run core n t := by
  have hstep : core.step s = .next t := h
  simp only [Host.Core.run, hstep]

/-- Ticks at every edge of a countdown of BUSY: none is counted, each is flagged, and BUSY is 0
after them (20_memory.md R63, 60_exceptions.md R166). -/
theorem run_ticks_while_busy (n : Nat) (s : State) (hbusy : s.busyLeft = n)
    (hin : s.inputs = List.replicate n Edge.ofTick) :
    ∃ t, Host.Core.run core n s = .next t ∧ t.ticks = s.ticks ∧ t.busyLeft = 0 ∧
      (s.hasErr .tickLost = true ∨ 0 < n → t.hasErr .tickLost = true) := by
  induction n generalizing s with
  | zero => exact ⟨s, rfl, rfl, hbusy, by simp⟩
  | succ n ih =>
    have hstep := step_of_tick_busy hin (by omega)
    obtain ⟨t, hrun, hticks, hleft, hlost⟩ :=
      ih { s.enterEdge.raise .tickLost with busyLeft := s.busyLeft - 1 }
        (by simp [hbusy]) (by simp [hin, List.replicate_succ])
    refine ⟨t, (run_succ_of_step hstep n).trans hrun, hticks, hleft, fun _ => hlost (.inl ?_)⟩
    change (s.err ||| errMask .tickLost).getLsbD (errIndex .tickLost) = true
    rw [getLsbD_or_errMask]; simp

/-- Settles O9: the first edge performs a tick and sets BUSY, and the others are its countdown. -/
theorem ticksWhileBusyAreLost : Obligations.TicksWhileBusyAreLost := by
  intro s hclocks hbusy haccel hin
  obtain ⟨n, hn⟩ : ∃ n, s.cfg.stepClocks = n + 1 := ⟨s.cfg.stepClocks - 1, by omega⟩
  rw [hn] at hin ⊢
  have hstep := step_of_tick_idle hin hbusy (brakeDividesByZero_of_accel s haccel)
  obtain ⟨hcount, hinputs⟩ := tickPhases_count s.enterEdge
  obtain ⟨t, hrun, hticks, hleft, hlost⟩ :=
    run_ticks_while_busy n { s.enterEdge.tickPhases with busyLeft := s.cfg.stepClocks - 1 }
      (by simp [hn]) (by simp [hinputs, hin, List.replicate_succ])
  exact ⟨t, (run_succ_of_step hstep n).trans hrun, hticks.trans hcount, hleft,
    fun htwo => hlost (.inr (by omega))⟩

/-! ### What a register write keeps -/

/-- `t` has of `s` everything that a word of the window but STATUS and ERR shows, but for what word
`w` is written to (10_state.md R41, 42_host_operations.md R138 to R147). -/
structure WritesWordOnly (w : WordIndex) (s t : State) : Prop where
  cfg : t.cfg = s.cfg
  ticks : t.ticks = s.ticks
  pos : t.pos = s.pos
  vel : t.vel = s.vel
  sum : t.sum = s.sum
  duty : t.duty = s.duty
  targetHiLatch : t.targetHiLatch = s.targetHiLatch
  posHiLatch : t.posHiLatch = s.posHiLatch
  fposHiLatch : t.fposHiLatch = s.fposHiLatch
  target : w ≠ 7 → t.target = s.target
  jog : w ≠ 8 → t.jog = s.jog
  maxSpeed : w ≠ 9 → t.maxSpeed = s.maxSpeed
  maxAccel : w ≠ 10 → t.maxAccel = s.maxAccel
  jumpLo : w ≠ 12 → lo32 t.jumpArg = lo32 s.jumpArg
  jumpHi : w ≠ 13 → hi32 t.jumpArg = hi32 s.jumpArg

/-- Writing nothing writes no word. -/
theorem WritesWordOnly.refl (w : WordIndex) (s : State) : WritesWordOnly w s s := by
  constructor <;> simp

/-- A write to a word but CMD writes what that word shows (42_host_operations.md R138 to R147). -/
theorem writeOp_writesWordOnly (w : WordIndex) (data : Word) (s t : State) (hcmd : w ≠ 0)
    (h : exec (writeOp w data) s = .next t) : WritesWordOnly w s t := by
  have keeps := WritesWordOnly.refl w s
  have isWord {k : WordIndex} (hk : w.toNat = k.toNat) : ¬ w ≠ k :=
    not_not_intro (BitVec.eq_of_toNat_eq hk)
  unfold writeOp at h
  split at h
  case h_1 hw => exact absurd hcmd (isWord (k := 0) hw)
  case h_2 | h_3 => cases h; exact { keeps with }
  case h_4 hw => cases h; exact { keeps with target := fun hne => absurd hne (isWord (k := 7) hw) }
  case h_5 hw =>
    change execWrJogDir data s = _ at h
    unfold execWrJogDir at h
    split at h <;> cases h
    · exact { keeps with jog := fun hne => absurd hne (isWord (k := 8) hw) }
    · exact { keeps with }
  case h_6 hw =>
    change execWrMaxSpeed data s = _ at h
    unfold execWrMaxSpeed at h
    split at h <;> cases h
    · exact { keeps with maxSpeed := fun hne => absurd hne (isWord (k := 9) hw) }
    · exact { keeps with }
  case h_7 hw =>
    change execWrMaxAccel data s = _ at h
    unfold execWrMaxAccel at h
    split at h <;> cases h
    · exact { keeps with maxAccel := fun hne => absurd hne (isWord (k := 10) hw) }
    · exact { keeps with }
  case h_8 hw =>
    cases h
    exact { keeps with
      jumpLo := fun hne => absurd hne (isWord (k := 12) hw)
      jumpHi := fun _ => hi32_s64 _ _ }
  case h_9 hw =>
    cases h
    exact { keeps with
      jumpLo := fun _ => lo32_s64 _ _
      jumpHi := fun hne => absurd hne (isWord (k := 13) hw) }
  case h_10 => split at h <;> cases h <;> exact keeps

/-- FPOS is a function of SUM and the build (41_filter_commutator.md R105). -/
theorem fpos_congr {s t : State} (hcfg : t.cfg = s.cfg) (hsum : t.sum = s.sum) :
    t.fpos = s.fpos := by
  unfold State.fpos; rw [hcfg, hsum]

/-- A write that keeps all but what word `w` shows keeps every other word of the window, STATUS, ERR
and the committed TARGET_LO excepted (20_memory.md R64). -/
theorem WritesWordOnly.window_eq {w v : WordIndex} {s t : State} (h : WritesWordOnly w s t)
    (hne : v ≠ w) (hstatus : v ≠ 1) (herr : v ≠ 2) (hcommit : ¬ (w = 7 ∧ v = 6)) :
    t.window v = s.window v := by
  have other {k : WordIndex} (hv : v.toNat = k.toNat) : w ≠ k := fun hw =>
    hne ((BitVec.eq_of_toNat_eq hv).trans hw.symm)
  have hfpos := fpos_congr h.cfg h.sum
  unfold State.window
  split
  case h_1 hv => exact absurd (BitVec.eq_of_toNat_eq hv) hstatus
  case h_2 hv => exact absurd (BitVec.eq_of_toNat_eq hv) herr
  case h_3 | h_4 => rw [h.cfg]
  case h_5 => exact h.ticks
  case h_6 hv => rw [h.target fun hw => hcommit ⟨hw, BitVec.eq_of_toNat_eq hv⟩]
  case h_7 => exact h.targetHiLatch
  case h_8 hv => rw [h.jog (other (k := 8) hv)]
  case h_9 hv => rw [h.maxSpeed (other (k := 9) hv)]
  case h_10 hv => rw [h.maxAccel (other (k := 10) hv)]
  case h_11 hv => exact h.jumpLo (other (k := 12) hv)
  case h_12 hv => exact h.jumpHi (other (k := 13) hv)
  case h_13 => rw [h.pos]
  case h_14 => exact h.posHiLatch
  case h_15 => exact h.vel
  case h_16 => unfold State.angleWord State.angle; rw [hfpos, h.cfg]
  case h_17 => unfold State.fposBits; rw [hfpos]
  case h_18 => exact h.fposHiLatch
  case h_19 | h_20 | h_21 | h_22 => rw [h.duty]
  case h_23 => rfl

/-- Settles O31: a register write keeps all but what its word shows. -/
theorem registerWritesKeepTheOtherWords : Obligations.RegisterWritesKeepTheOtherWords := by
  intro s t w v data hcmd h hne hstatus herr hcommit
  exact (writeOp_writesWordOnly w data s t hcmd h).window_eq hne hstatus herr hcommit

/-! ### Where the words stand -/

/-- An address is no access where no word of the window stands at it (20_memory.md R51). -/
theorem windowWord_eq_none_iff (c : Config) (addr : Nat) :
    windowWord c addr = none ↔ ∀ w : WordIndex, addr ≠ c.windowBase + 4 * w.toNat := by
  simp only [Option.eq_none_iff_forall_ne_some, ne_eq, windowWord_eq_some_iff]

/-- The byte at offset `4w + i` is bits `8i+7 : 8i` of word `w` (20_memory.md R55). -/
theorem windowByte_append (s : State) (w : WordIndex) (i : BitVec 2) :
    s.windowByte (w ++ i) = (s.window w).extractLsb' (8 * i.toNat) 8 := by
  unfold State.windowByte
  rw [BitVec.extractLsb'_append_eq_left, BitVec.extractLsb'_append_eq_right]

/-- A word is its four bytes, the most significant first (20_memory.md R55). -/
theorem bytes_append (x : Word) :
    x.extractLsb' 24 8 ++ x.extractLsb' 16 8 ++ x.extractLsb' 8 8 ++ x.extractLsb' 0 8 = x := by
  rw [BitVec.extractLsb'_append_extractLsb'_eq_extractLsb' (rfl : 24 = 16 + 8),
    BitVec.extractLsb'_append_extractLsb'_eq_extractLsb' (rfl : 16 = 8 + 8),
    BitVec.extractLsb'_append_extractLsb'_eq_extractLsb' (rfl : 8 = 0 + 8),
    BitVec.extractLsb'_eq_self]

/-- Settles O23: each word has one address, which lies in the window, and its bytes are its bits in
their order. -/
theorem windowStandsAtItsBaseLittleEndian : Obligations.WindowStandsAtItsBaseLittleEndian := by
  refine ⟨fun c w => ?_, fun c addr hout => ?_, fun c c' addr w hapart hw => ?_, fun s w => ?_⟩
  · exact (windowWord_eq_some_iff c _ w).2 rfl
  · refine (windowWord_eq_none_iff c addr).2 fun w => ?_
    omega
  · have haddr := (windowWord_eq_some_iff c addr w).1 hw
    refine (windowWord_eq_none_iff c' addr).2 fun w' => ?_
    unfold windowsApart at hapart
    omega
  · simp only [windowByte_append]
    exact bytes_append (s.window w)

end Sys2Proof.Machine

/-! ## The family of the encoding: decode and encode are each other's inverse, but for the
don't-care DATA of a read (30_encoding.md) -/

namespace Sys2Proof

/-! ### Decode after encode -/

/-- The request of a well-formed operation decodes to that operation: a fixed word selects its row
of the table, and well-formedness is what keeps an operand on its own row (30_encoding.md R73). -/
theorem decodeRequest_of_encodeRequest {i : Instr} {q : Request} (hwf : i.wf = true)
    (h : encodeRequest i = some q) : decodeRequest q = i := by
  cases i with
  | tick | reset => exact nomatch h
  | rdRsvd w =>
    obtain rfl := Option.some.inj h
    exact (decodeRequest_requestOf false w 0).trans (readOp_reserved w hwf)
  | wrRo w data =>
    obtain rfl := Option.some.inj h
    exact (decodeRequest_requestOf true w data).trans (writeOp_readOnly w hwf data)
  | wrRsvd w data =>
    obtain rfl := Option.some.inj h
    exact (decodeRequest_requestOf true w data).trans (writeOp_reserved w hwf data)
  | cmdRsvd data =>
    obtain rfl := Option.some.inj h
    exact (decodeRequest_requestOf true 0 data).trans (commandOp_reserved data hwf)
  | _ =>
    obtain rfl := Option.some.inj h
    exact decodeRequest_requestOf _ _ _

/-- The operations with no request are the two strobes (30_encoding.md R69). -/
theorem eq_tick_or_reset_of_encodeRequest_eq_none {i : Instr} (h : encodeRequest i = none) :
    i = .tick ∨ i = .reset := by
  cases i with
  | tick => exact .inl rfl
  | reset => exact .inr rfl
  | _ => exact nomatch h

/-- An operation that has a request is encoded by it. -/
theorem encode_of_encodeRequest {i : Instr} {q : Request} (h : encodeRequest i = some q) :
    encode i = Edge.ofRequest q := by
  unfold encode
  rw [h]

/-- Settles O1: a bus operation comes back through its request, a strobe through its port. -/
theorem decodeOfEncodeIsTheOperation : Obligations.DecodeOfEncodeIsTheOperation := by
  intro i hwf
  cases h : encodeRequest i with
  | some q =>
    rw [encode_of_encodeRequest h, decodeEdge_ofRequest, decodeRequest_of_encodeRequest hwf h]
  | none => obtain rfl | rfl := eq_tick_or_reset_of_encodeRequest_eq_none h <;> rfl

/-! ### Encode after decode -/

/-- The reserved words by number (30_encoding.md R74). -/
theorem isReservedWord_iff (w : WordIndex) :
    isReservedWord w = true ↔ w.toNat = 11 ∨ 24 ≤ w.toNat := by
  simp [isReservedWord]

/-- The read-only words by number (30_encoding.md R74). -/
theorem isReadOnlyWord_iff (w : WordIndex) :
    isReadOnlyWord w = true ↔
      w.toNat = 1 ∨ (3 ≤ w.toNat ∧ w.toNat ≤ 5) ∨ (14 ≤ w.toNat ∧ w.toNat ≤ 23) := by
  simp [isReadOnlyWord, or_assoc]

/-- The codes that name no command (30_encoding.md R72). -/
theorem isReservedCommand_iff (data : Word) : isReservedCommand data = true ↔ 3 < data.toNat := by
  simp [isReservedCommand]

/-- Every row of READ_OP is well formed: what the table leaves over are the reserved words. -/
theorem readOp_wf (w : WordIndex) : (readOp w).wf = true := by
  unfold readOp
  split
  case h_24 =>
    simp only [imp_false] at *
    exact (isReservedWord_iff w).2 (by omega)
  all_goals rfl

/-- Every command code is well formed: what the table leaves over are the codes above 3. -/
theorem commandOp_wf (data : Word) : (commandOp data).wf = true := by
  unfold commandOp
  split
  case h_5 =>
    simp only [imp_false] at *
    exact (isReservedCommand_iff data).2 (by omega)
  all_goals rfl

/-- Every row of WRITE_OP is well formed: what the table leaves over is read-only or reserved. -/
theorem writeOp_wf (w : WordIndex) (data : Word) : (writeOp w data).wf = true := by
  unfold writeOp
  split
  case h_1 => exact commandOp_wf data
  case h_10 =>
    split
    case isTrue hro => exact hro
    case isFalse hro =>
      simp only [imp_false, isReadOnlyWord_iff] at *
      exact (isReservedWord_iff w).2 (by omega)
  all_goals rfl

/-- The request of a read's operation is that read with DATA 0. -/
theorem encodeRequest_readOp (w : WordIndex) :
    encodeRequest (readOp w) = some (requestOf false w 0) := by
  unfold readOp
  split
  case h_24 => rfl
  all_goals
    next hw =>
      exact congrArg (fun v => some (requestOf false v 0)) (BitVec.eq_of_toNat_eq hw.symm)

/-- The request of a command's operation is the write of its code to word 0. -/
theorem encodeRequest_commandOp (data : Word) :
    encodeRequest (commandOp data) = some (requestOf true 0 data) := by
  unfold commandOp
  split
  case h_5 => rfl
  all_goals
    next hcode =>
      exact congrArg (fun d => some (requestOf true 0 d)) (BitVec.eq_of_toNat_eq hcode.symm)

/-- The request of a write's operation is that write. -/
theorem encodeRequest_writeOp (w : WordIndex) (data : Word) :
    encodeRequest (writeOp w data) = some (requestOf true w data) := by
  unfold writeOp
  split
  case h_1 hw =>
    obtain rfl : w = 0 := BitVec.eq_of_toNat_eq hw
    exact encodeRequest_commandOp data
  case h_10 => split <;> rfl
  all_goals
    next hw =>
      exact congrArg (fun v => some (requestOf true v data)) (BitVec.eq_of_toNat_eq hw.symm)

/-- A write request comes back with its DATA, a read request with DATA 0 (30_encoding.md R69). -/
theorem encodeRequest_decodeRequest (q : Request) :
    encodeRequest (decodeRequest q) =
      some (if requestWe q then q else requestOf false (requestIndex q) 0) := by
  unfold decodeRequest
  split
  case isTrue hwe =>
    calc encodeRequest (writeOp (requestIndex q) (requestData q))
        = some (requestOf true (requestIndex q) (requestData q)) := encodeRequest_writeOp _ _
      _ = some q := by rw [← hwe, requestOf_fields]
  case isFalse => exact encodeRequest_readOp _

/-- Every request decodes to a well-formed operation (30_encoding.md R70). -/
theorem decodeRequest_wf (q : Request) : (decodeRequest q).wf = true := by
  unfold decodeRequest
  split
  · exact writeOp_wf _ _
  · exact readOp_wf _

/-- Settles O2, from the two directions of the tables. -/
theorem everyRequestIsOneOperation : Obligations.EveryRequestIsOneOperation :=
  fun q => ⟨decodeRequest_wf q, encodeRequest_decodeRequest q⟩

/-! ### Words of the opcode table -/

/-- A table word of more than 8 bits is the request of its fields (30_encoding.md R69), and decodes
by the tables of R73. -/
theorem decodeTableWord_requestOf {nbits : Nat} (hn : 8 < nbits) (we : Bool) (w : WordIndex)
    (data : Word) :
    decodeTableWord nbits (requestOf we w data).toNat =
      some (if we then writeOp w data else readOp w) := by
  have hedge : edgeOfTableWord nbits (requestOf we w data).toNat =
      .ok (Edge.ofRequest (requestOf we w data)) := by
    unfold edgeOfTableWord
    rw [if_neg (by omega), if_pos (requestOf we w data).isLt, BitVec.ofNat_toNat,
      BitVec.setWidth_eq]
  unfold decodeTableWord decodeWord
  simp only [hedge, decodeEdge_ofRequest, decodeRequest_requestOf]

/-- A 40-bit table word that writes `data` to word `w` is the operation of WRITE_OP. -/
theorem decodeTableWord_write (w : WordIndex) (data : Word) :
    decodeTableWord 40 (requestOf true w data).toNat = some (writeOp w data) :=
  decodeTableWord_requestOf (by omega) true w data

/-- A 40-bit table word that reads word `w` is the operation of READ_OP. -/
theorem decodeTableWord_read (w : WordIndex) (data : Word) :
    decodeTableWord 40 (requestOf false w data).toNat = some (readOp w) :=
  decodeTableWord_requestOf (by omega) false w data

/-- Settles O3: each word is cut into its fields W and DATA, which select the row of the table; the
strobe words 1 and 2 are the model's layout (log entry 7). -/
theorem sampleRequestsDecode : Obligations.SampleRequestsDecode :=
  ⟨decodeTableWord_write 10 10, decodeTableWord_write 9 500, decodeTableWord_write 6 10000,
    decodeTableWord_write 7 0, decodeTableWord_write 8 1, decodeTableWord_write 2 0x1F,
    decodeTableWord_write 12 0xFFFFFF9C, decodeTableWord_write 0 1, decodeTableWord_write 0 2,
    decodeTableWord_write 0 3, decodeTableWord_write 0 7, decodeTableWord_read 1 0,
    decodeTableWord_read 14 0, decodeTableWord_read 19 0, rfl, rfl⟩

end Sys2Proof

/-! ## The family of the trajectory engine: the phases of a tick, the rules of the eight states, and
what follows from them (40_engine_fsm.md) -/

namespace Sys2Proof.Machine

/-! ### The phases of a performed tick -/

/-- Phases 3 to 6 leave the engine, FCOUNT and ERR as the FSM phase left them (40_engine_fsm.md R78,
"Written"). -/
theorem sameEngine_afterFsm (u : State) (k : Nat) :
    SameEngine u { u.push.latchDuty.clearDirtyAtRest.countTick with busyLeft := k } := by
  constructor <;> rfl

/-- Phases 3 to 6 after phases that wrote the engine, FCOUNT and ERR alone (40_engine_fsm.md R78). -/
theorem tickFrame_afterFsm {s u : State} (same : SameOutsideEngine s u) :
    TickFrame s { u.push.latchDuty.clearDirtyAtRest.countTick with
      busyLeft := s.cfg.stepClocks - 1 } where
  sumPushed := by simp [State.bufAt, same.sum, same.buf, same.widx]
  bufPushed := by simp [same.buf, same.widx]
  widxMoved := by simp [Config.len, same.widx, same.cfg]
  dutyLatched := congrArg (commutate · u.push.angle) same.cfg
  dirtyCleared := congrArg (· && u.fsm != .wait) same.spDirty
  ticksCounted := congrArg (· + 1) same.ticks
  busySet := rfl
  sameCfg := same.cfg
  sameMaxSpeed := same.maxSpeed
  sameMaxAccel := same.maxAccel
  sameTloHold := same.tloHold
  sameTargetHiLatch := same.targetHiLatch
  samePosHiLatch := same.posHiLatch
  sameFposHiLatch := same.fposHiLatch
  sameJumpArg := same.jumpArg
  sameBusRdata := same.busRdata
  sameInputs := same.inputs
  sameFreeCount := same.freeCount

/-- What a performed tick does: the engine, FCOUNT and ERR are those of the FSM phase, and the other
phases run (40_engine_fsm.md R78). -/
theorem tickPhases_result (s : State) :
    SameEngine s.countdown.runFsm { s.tickPhases with busyLeft := s.cfg.stepClocks - 1 } ∧
      TickFrame s { s.tickPhases with busyLeft := s.cfg.stepClocks - 1 } := by
  have same : SameOutsideEngine s.countdown s.countdown.runFsm := runFsm_frame s.countdown
  unfold State.tickPhases
  exact ⟨sameEngine_afterFsm _ _, tickFrame_afterFsm { same with }⟩

/-- A tick request in an idle state without the division by 0 answers the state that the six phases
give. -/
theorem exec_tick_phases {s : State} (hbusy : s.busyLeft = 0)
    (hdiv : s.brakeDividesByZero = false) :
    ∃ t, exec .tick s = .next t ∧ SameEngine s.countdown.runFsm t ∧ TickFrame s t :=
  ⟨_, exec_tick_performed s hbusy hdiv, tickPhases_result s⟩

/-- What a tick that answers outside BUSY has done. -/
theorem performed_of_exec_tick {s t : State} (hbusy : s.busyLeft = 0)
    (h : exec .tick s = .next t) : SameEngine s.countdown.runFsm t ∧ TickFrame s t := by
  obtain ⟨hb, -⟩ | ⟨-, -, rfl⟩ := execTick_next s t h
  · exact absurd hbusy hb
  · exact tickPhases_result s

/-- Settles O37: with MAX_ACCEL at least 1 no tick divides by 0, so the six phases run. -/
theorem tickPerformsItsPhases : Obligations.TickPerformsItsPhases := by
  intro s hbusy haccel
  exact exec_tick_phases hbusy (brakeDividesByZero_of_accel s haccel)

/-- Where the handler of the FSM state ends the phase, the tick ends in the engine it left
(40_engine_fsm.md R79). -/
theorem exec_tick_of_done {s u : State} (hbusy : s.busyLeft = 0)
    (hdiv : s.brakeDividesByZero = false) (h : handle s.countdown = .done u) :
    ∃ t, exec .tick s = .next t ∧ SameEngine u t ∧ TickFrame s t :=
  runFsm_of_done _ _ h ▸ exec_tick_phases hbusy hdiv

/-- Where the handler of the FSM state continues, the tick is that of a state from which phase 1
gives what the handler left (40_engine_fsm.md R79). -/
theorem exec_tick_of_again {s u : State} (hbusy : s.busyLeft = 0)
    (hdiv : s.brakeDividesByZero = false) (h : handle s.countdown = .again u.countdown) :
    exec .tick s = exec .tick u := by
  have same : SameOutsideEngine s.countdown u.countdown := by
    have := handle_frame s.countdown; rw [h] at this; exact this
  have hcfg : u.cfg = s.cfg := same.cfg
  have hnotBrake : u.fsm ≠ .brake := by
    have := handle_again _ _ h
    simp only [countdown_fsm] at this
    rcases this with ⟨-, i⟩ | ⟨-, i | i | i⟩ | ⟨-, i | i⟩ | ⟨-, i⟩ <;> simp [i]
  have hfsm : s.countdown.runFsm = u.countdown.runFsm := runFsm_of_again _ _ h
  have hphases : s.tickPhases = u.tickPhases :=
    congrArg (·.push.latchDuty.clearDirtyAtRest.countTick) hfsm
  rw [exec_tick_performed s hbusy hdiv,
    exec_tick_performed u (same.busyLeft.trans hbusy) (brakeDividesByZero_of_fsm u hnotBrake),
    hphases, hcfg]

/-! ### The re-dispatch loop -/

/-- How many handlers a tick can run from an FSM state on (40_engine_fsm.md R96): the two states
that a tick leaves through two more, those that it can leave through one more, and those whose
handler always ends the phase. -/
def handlersFrom : Fsm → Nat
  | .wait | .brake => 3
  | .start | .decToZero => 2
  | .acc | .dec | .constSpeed | .standstill => 1

/-- A handler that continues leaves fewer handlers to run. -/
theorem handlersFrom_again {s t : State} (h : handle s = .again t) :
    0 < handlersFrom t.fsm ∧ handlersFrom t.fsm < handlersFrom s.fsm := by
  rcases handle_again s t h with ⟨i, j⟩ | ⟨i, j | j | j⟩ | ⟨i, j | j⟩ | ⟨i, j⟩ <;>
    simp [i, j, handlersFrom]

/-- With enough handler runs allowed, the loop ends before the cap: neither their number nor the
snapshot matters (40_engine_fsm.md R79). -/
theorem dispatchLoop_of_enough (snap snap' : State) (n m : Nat) (s : State)
    (hn : handlersFrom s.fsm ≤ n) (hm : handlersFrom s.fsm ≤ m) :
    dispatchLoop snap n s = dispatchLoop snap' m s := by
  have hpos : 0 < handlersFrom s.fsm := by cases s.fsm <;> decide
  induction n generalizing s m with
  | zero => omega
  | succ n ih =>
    obtain ⟨m, rfl⟩ := Nat.exists_eq_succ_of_ne_zero (n := m) (by omega)
    rw [dispatchLoop, dispatchLoop]
    cases h : handle s with
    | done t => rfl
    | again t =>
      obtain ⟨htpos, htlt⟩ := handlersFrom_again h
      exact ih m t (by omega) (by omega) htpos

/-- Settles O47: no FSM state lets a tick run more than 3 handlers. -/
theorem atMostThreeHandlersRun : Obligations.AtMostThreeHandlersRun := by
  intro s snap snap' n
  have hthree : handlersFrom s.fsm ≤ 3 := by cases s.fsm <;> decide
  exact dispatchLoop_of_enough snap snap' (n + 3) 3 s (by omega) hthree

/-! ### WAIT, STANDSTILL and BRAKE -/

/-- Settles O39: without a trigger the handler ends the phase where it found it; with one it goes on
in START, and phase 1 does not count with MOVING = 1. -/
theorem waitTickRule : Obligations.WaitTickRule := by
  intro s hfsm hbusy
  have hdiv : s.brakeDividesByZero = false := brakeDividesByZero_of_fsm s (by simp [hfsm])
  have hhandle : handle s.countdown = handleWait s.countdown := by simp [handle, hfsm]
  constructor
  · intro hjog htarget
    have hdone : handle s.countdown = .done s.countdown := by
      simp [hhandle, handleWait, hjog, htarget]
    obtain ⟨t, ht, e, frame⟩ := exec_tick_of_done hbusy hdiv hdone
    exact ⟨t, ht, frame, e.fsm.trans hfsm, e.pos, e.vel, e.dir, e.moving, e.target, e.jog,
      e.fcount, e.err⟩
  · intro htrigger
    exact exec_tick_of_again hbusy hdiv (hhandle.trans (if_pos htrigger))

/-- Settles O45: the handler ends the phase. -/
theorem standstillTickRule : Obligations.StandstillTickRule := by
  intro s hfsm hbusy
  have hdone : handle s.countdown = handleStandstill s.countdown := by simp [handle, hfsm]
  obtain ⟨t, ht, e, frame⟩ :=
    exec_tick_of_done hbusy (brakeDividesByZero_of_fsm s (by simp [hfsm])) hdone
  exact ⟨t, ht, frame, e.fsm, e.pos, e.vel, e.dir, e.moving, e.target, e.jog, e.fcount, e.err⟩

/-- Settles O46: BRAKE continues in both cases, and with VEL = 0 it does not divide. -/
theorem brakeTickRule : Obligations.BrakeTickRule := by
  intro s hfsm hbusy
  have hhandle : handle s.countdown = handleBrake s.countdown := by simp [handle, hfsm]
  constructor
  · intro hvel
    have hdiv : s.brakeDividesByZero = false := by simp [State.brakeDividesByZero, hvel]
    exact exec_tick_of_again hbusy hdiv (hhandle.trans (if_pos hvel))
  · intro hvel haccel
    have hagain := hhandle.trans (if_neg hvel)
    rw [errSetIf_wrap64] at hagain
    exact exec_tick_of_again hbusy (brakeDividesByZero_of_accel s haccel) hagain

/-! ### START -/

/-- The direction START decides, written out (40_engine_fsm.md R85). -/
theorem startDir_eq (s : State) :
    s.startDir =
      let delta := s.target.toInt - s.pos.toInt
      let vd := s.vel.toInt * dirInt (signDir delta)
      if s.jog ≠ .zero then s.jog
      else if delta ≠ 0 then
        if 0 < vd ∧ (s.maxAccel.toNat : Int) ≤
            Int.fdiv (vd * vd) (2 * (delta * dirInt (signDir delta))) + 1
        then flipDir (signDir delta) else signDir delta
      else flipDir (signDir s.vel.toInt) := by
  have hsign := not_congr (signDir_eq_zero (s.target.toInt - s.pos.toInt))
  by_cases hdelta : s.target.toInt - s.pos.toInt = 0
  · simp [State.startDir, hdelta, signDir]
  · simp only [State.startDir, if_pos (hsign.2 hdelta), if_pos hdelta]
    rfl

/-- Settles O40: each branch of the handler continues, with the direction it decided. -/
theorem startTickRule : Obligations.StartTickRule := by
  intro s hfsm hbusy delta toward vd d
  have hdiv : s.brakeDividesByZero = false := brakeDividesByZero_of_fsm s (by simp [hfsm])
  have hhandle : handle s.countdown = handleStart s.countdown := by simp [handle, hfsm]
  have hd : s.countdown.startDir = d := startDir_eq s.countdown
  unfold handleStart at hhandle
  rw [hd] at hhandle
  refine ⟨fun hzero => ?_, fun hne hbelow => ?_, fun hne habove => ?_⟩
  · exact exec_tick_of_again hbusy hdiv (hhandle.trans (if_pos hzero))
  · rw [if_neg hne] at hhandle
    exact exec_tick_of_again hbusy hdiv (hhandle.trans (if_pos hbelow))
  · rw [if_neg hne] at hhandle
    exact exec_tick_of_again hbusy hdiv (hhandle.trans (if_neg (not_lt.2 habove)))

/-! ### The four integrating states -/

/-- The speeds along DIR that a handler can choose: none below 0 but above the old one, none above
MAX_SPEED but below the old one (40_engine_fsm.md R86 to R89). -/
def NewSpeed (s : State) (v : Int) : Prop := min s.vd 0 ≤ v ∧ v ≤ max s.vd s.speedLimit

/-- Such a speed along DIR fits VEL, from every state (40_engine_fsm.md R93). -/
theorem NewSpeed.toInt_ofInt {s : State} {v : Int} (h : NewSpeed s v) :
    (BitVec.ofInt 32 (dirInt s.dir * v)).toInt = dirInt s.dir * v := by
  obtain ⟨hlow, hhigh⟩ := h
  have hvel := vel_range s.vel
  have hlimit := speedLimit_bounds s
  unfold State.vd at hlow hhigh
  apply toInt_ofInt_32 <;> cases hd : s.dir <;> simp only [hd, dirInt] at hlow hhigh ⊢ <;> omega

/-- The new speed of ACC (40_engine_fsm.md R86). -/
theorem newSpeed_acc (s : State) : NewSpeed s s.accSpeed := by
  have := accelLimit_nonneg s
  have := speedLimit_bounds s
  unfold NewSpeed State.accSpeed; omega

/-- The new speed of DEC (40_engine_fsm.md R87). -/
theorem newSpeed_dec (s : State) : NewSpeed s s.decSpeed := by
  have := accelLimit_nonneg s
  have := speedLimit_bounds s
  unfold NewSpeed State.decSpeed; omega

/-- The speed of CONST_SPEED (40_engine_fsm.md R88). -/
theorem newSpeed_cruise (s : State) : NewSpeed s s.speedLimit := by
  have := speedLimit_bounds s
  unfold NewSpeed; omega

/-- The deceleration of DEC_TO_ZERO is at least 1, so the speed falls (40_engine_fsm.md R89). -/
theorem stopSpeed_lt {s : State} (h : 0 < s.vd) : s.stopSpeed < s.vd := by
  have : 1 ≤ s.stopDecel := le_max_left _ _
  unfold State.stopSpeed; omega

/-- The new speed of DEC_TO_ZERO past its guard (40_engine_fsm.md R89). -/
theorem newSpeed_stop {s : State} (h : 0 < s.vd) : NewSpeed s s.stopSpeed := by
  have hlt := stopSpeed_lt h
  have hnonneg : 0 ≤ s.stopSpeed := le_max_right _ _
  unfold NewSpeed; omega

/-- The tick from `s` to `t` integrates the new speed `v` along DIR, leaves the FSM state `f` and
runs the other phases (40_engine_fsm.md R82). -/
structure IntegratedTick (s : State) (v : Int) (f : Fsm) (t : State) : Prop where
  frame : TickFrame s t
  vel : t.vel.toInt = dirInt s.dir * v
  pos : t.pos = BitVec.ofInt 64 (s.pos.toInt + Int.tdiv (s.vel.toInt + dirInt s.dir * v) 2)
  err : t.err = errAfterPos s.err (s.pos.toInt + Int.tdiv (s.vel.toInt + dirInt s.dir * v) 2)
  dir : t.dir = s.dir
  moving : t.moving = s.moving
  target : t.target = s.target
  jog : t.jog = s.jog
  fcount : t.fcount = countedDown s
  fsm : t.fsm = f

/-- A handler that ends the phase by integrating a new speed makes the tick integrate it. -/
theorem exec_tick_integrates {s : State} {v : Int} {f : Fsm} (hbusy : s.busyLeft = 0)
    (hbrake : s.fsm ≠ .brake) (hv : NewSpeed s v)
    (hdone : handle s.countdown =
      .done { s.countdown.integrate (dirInt s.dir * v) with fsm := f }) :
    ∃ t, exec .tick s = .next t ∧ IntegratedTick s v f t := by
  rw [integrate_eq] at hdone
  obtain ⟨t, ht, e, frame⟩ :=
    exec_tick_of_done hbusy (brakeDividesByZero_of_fsm s hbrake) hdone
  exact ⟨t, ht, {
    frame := frame
    vel := (congrArg BitVec.toInt e.vel).trans hv.toInt_ofInt
    pos := e.pos
    err := e.err
    dir := e.dir
    moving := e.moving
    target := e.target
    jog := e.jog
    fcount := e.fcount
    fsm := e.fsm }⟩

/-- The speed along DIR right after a new speed was integrated. -/
theorem integrate_vd {s : State} {v : Int} (hv : NewSpeed s v) :
    (s.integrate (dirInt s.dir * v)).vd = dirInt s.dir * v * dirInt s.dir :=
  congrArg (· * dirInt s.dir) hv.toInt_ofInt

/-- The exits of the finite mode after integrating, from the VEL and POS that the tick leaves
(40_engine_fsm.md R83). -/
def exitAfter (s t : State) (f : Fsm) : Fsm :=
  let vd := t.vel.toInt * dirInt s.dir
  let r := (s.target.toInt - t.pos.toInt) * dirInt s.dir
  if s.jog = .zero ∧ 0 < vd ∧ r ≤ 0 then .standstill
  else if s.jog = .zero ∧ 0 < vd ∧ (s.maxAccel.toNat : Int) < Int.fdiv (vd * vd) (2 * r) + 1
  then .decToZero
  else f

/-- A handler that ends the phase by integrating a new speed and then takes the exits of the finite
mode makes the tick do so (40_engine_fsm.md R83). -/
theorem exec_tick_integrates_exit {s : State} {v : Int} {f : Fsm} (hbusy : s.busyLeft = 0)
    (hbrake : s.fsm ≠ .brake) (hv : NewSpeed s v)
    (hdone : handle s.countdown = .done { s.countdown.integrate (dirInt s.dir * v) with
      fsm := (s.countdown.integrate (dirInt s.dir * v)).finiteExit.getD f }) :
    ∃ t, exec .tick s = .next t ∧ IntegratedTick s v (exitAfter s t f) t := by
  obtain ⟨t, ht, h⟩ := exec_tick_integrates hbusy hbrake hv hdone
  have hvd : (s.countdown.integrate (dirInt s.dir * v)).vd = t.vel.toInt * dirInt s.dir := by
    rw [h.vel]; exact integrate_vd (s := s.countdown) hv
  have hrem : (s.countdown.integrate (dirInt s.dir * v)).remaining =
      (s.target.toInt - t.pos.toInt) * dirInt s.dir := by
    rw [h.pos]; rfl
  refine ⟨t, ht, { h with fsm := h.fsm.trans ?_ }⟩
  rw [finiteExit_getD, hvd, hrem]; rfl

/-- Settles O41: the handler integrates the speed of R86 and takes the exits in their order. -/
theorem accTickRule : Obligations.AccTickRule := by
  intro s hfsm hbusy vn x
  have hdone : handle s.countdown = handleAcc s.countdown := by simp [handle, hfsm]
  rw [handleAcc, countdown_fsm, hfsm] at hdone
  obtain ⟨t, ht, h⟩ := exec_tick_integrates_exit hbusy (by simp [hfsm]) (newSpeed_acc s) hdone
  exact ⟨t, ht, h.frame, h.vel, h.pos, h.err, h.dir, h.moving, h.target, h.jog, h.fcount, h.fsm⟩

/-- Settles O42: the handler integrates the speed of R87, clamped from above. -/
theorem decTickRule : Obligations.DecTickRule := by
  intro s hfsm hbusy vn x
  have hdone : handle s.countdown = handleDec s.countdown := by simp [handle, hfsm]
  rw [handleDec, countdown_fsm, hfsm] at hdone
  obtain ⟨t, ht, h⟩ := exec_tick_integrates hbusy (by simp [hfsm]) (newSpeed_dec s) hdone
  exact ⟨t, ht, h.frame, h.vel, h.pos, h.err, h.dir, h.moving, h.target, h.jog, h.fcount, h.fsm⟩

/-- Settles O43: the handler integrates MAX_SPEED and takes the exits of the finite mode. -/
theorem constSpeedTickRule : Obligations.ConstSpeedTickRule := by
  intro s hfsm hbusy x
  have hdone : handle s.countdown = handleConstSpeed s.countdown := by simp [handle, hfsm]
  rw [handleConstSpeed, countdown_fsm, hfsm] at hdone
  obtain ⟨t, ht, h⟩ := exec_tick_integrates_exit hbusy (by simp [hfsm]) (newSpeed_cruise s) hdone
  exact ⟨t, ht, h.frame, h.vel, h.pos, h.err, h.dir, h.moving, h.target, h.jog, h.fcount, h.fsm⟩

/-- Settles O44: the guard continues in STANDSTILL; past it the handler integrates the speed of R89,
which is smaller than the old one. -/
theorem decToZeroTickRule : Obligations.DecToZeroTickRule := by
  intro s hfsm hbusy vd r vn x
  have hbrake : s.fsm ≠ .brake := by simp [hfsm]
  have hhandle : handle s.countdown = handleDecToZero s.countdown := by simp [handle, hfsm]
  constructor
  · intro hguard
    exact exec_tick_of_again hbusy (brakeDividesByZero_of_fsm s hbrake)
      (hhandle.trans (if_pos hguard))
  · intro hr hvd
    have hdone := hhandle.trans (if_neg (not_or.2 ⟨not_le.2 hr, not_le.2 hvd⟩))
    rw [countdown_fsm, hfsm] at hdone
    obtain ⟨t, ht, h⟩ := exec_tick_integrates hbusy hbrake (newSpeed_stop hvd) hdone
    exact ⟨t, ht, h.frame, h.vel, stopSpeed_lt hvd, h.pos, h.err, h.dir, h.moving, h.target, h.jog,
      h.fcount, h.fsm.trans (h.pos ▸ rfl)⟩

/-! ### What follows from the rules of the states -/

/-- One tick of CONST_SPEED with MAX_SPEED = 0 at rest keeps the engine so (40_engine_fsm.md
R99). -/
theorem exec_tick_hang {s : State} (hbusy : s.busyLeft = 0) (hspeed : s.maxSpeed = 0)
    (hfsm : s.fsm = .constSpeed) (hvel : s.vel = 0) :
    ∃ t, exec .tick s = .next t ∧ TickFrame s t ∧ t.fsm = .constSpeed ∧ t.vel = 0 ∧
      t.pos = s.pos ∧ t.moving = s.moving := by
  obtain ⟨t, ht, frame, htvel, htpos, -, -, htmoving, -, -, -, htfsm⟩ :=
    constSpeedTickRule s hfsm hbusy
  have hzero : t.vel.toInt = 0 := by simpa [hspeed] using htvel
  refine ⟨t, ht, frame, ?_, BitVec.eq_of_toInt_eq hzero, ?_, htmoving⟩
  · simpa [hzero] using htfsm
  · simpa [hspeed, hvel] using htpos

/-- Settles O49, by induction on the number of ticks. -/
theorem zeroMaxSpeedHangsInConstSpeed : Obligations.ZeroMaxSpeedHangsInConstSpeed := by
  intro n
  induction n with
  | zero => intro s _ _ _ hfsm hvel; exact ⟨s, rfl, hfsm, hvel, rfl, rfl, by simp⟩
  | succ n ih =>
    intro s hclocks hbusy hspeed hfsm hvel
    obtain ⟨u, hu, frame, hufsm, huvel, hupos, humoving⟩ := exec_tick_hang hbusy hspeed hfsm hvel
    obtain ⟨t, ht, htfsm, htvel, htpos, htmoving, hticks⟩ :=
      ih u (frame.sameCfg ▸ hclocks) (by rw [frame.busySet, hclocks])
        (frame.sameMaxSpeed.trans hspeed) hufsm huvel
    refine ⟨t, (runOps_cons_next _ _ s t).2 ⟨u, hu, ht⟩, htfsm, htvel, htpos.trans hupos,
      htmoving.trans humoving, ?_⟩
    rw [hticks, frame.ticksCounted, BitVec.add_assoc, Nat.add_comm n 1, BitVec.ofNat_add]
    rfl

/-- Settles O57: no other effect of an operation writes another FSM state in WAIT, and the tick does
so by its trigger alone. -/
theorem onlyTheTriggerLeavesWait : Obligations.OnlyTheTriggerLeavesWait := by
  intro i s t hfsm ht hleaves
  cases exec_effect i s t ht with
  | tick accepted _ =>
    refine ⟨rfl, accepted, ?_⟩
    by_contra hno
    obtain ⟨hjog, htarget⟩ := not_or.1 hno
    obtain ⟨u, hu, -, hufsm, -⟩ :=
      (waitTickRule s hfsm accepted).1 (not_not.1 hjog) (not_not.1 htarget)
    rw [ht] at hu
    cases hu
    exact hleaves hufsm
  | update inMotion _ => exact absurd hfsm inMotion
  | brake integrating => exact absurd hfsm (ne_wait_of_isIntegrating integrating)
  | reset => exact absurd rfl hleaves
  | port | err | setpoint | maxSpeed | maxAccel | jump => exact absurd hfsm hleaves

/-! ### The speed that CONST_SPEED and DEC stand for -/

/-- What CONST_SPEED and DEC say of the speed at the end of a tick (40_engine_fsm.md R98). -/
def CruiseLaw (t : State) : Prop :=
  (t.fsm = .constSpeed → t.vel.toInt = dirInt t.dir * t.maxSpeed.toNat) ∧
  (t.fsm = .dec → (t.maxSpeed.toNat : Int) < t.vel.toInt * dirInt t.dir)

/-- The other states say nothing of the speed. -/
theorem CruiseLaw.of_fsm {t : State} (hc : t.fsm ≠ .constSpeed) (hd : t.fsm ≠ .dec) :
    CruiseLaw t :=
  ⟨fun h => absurd h hc, fun h => absurd h hd⟩

/-- A direction other than 0 is its own inverse. -/
theorem dirInt_mul_mul_self {d : Dir} (h : d ≠ .zero) (v : Int) : dirInt d * v * dirInt d = v := by
  cases d with
  | zero => exact absurd rfl h
  | neg | pos => simp [dirInt]

/-- Integrating a new speed keeps the law where the FSM state that follows is chosen by it. -/
theorem CruiseLaw.integrate {s : State} {v : Int} {f : Fsm} (hv : NewSpeed s v)
    (hc : f = .constSpeed → v = s.speedLimit)
    (hd : f = .dec → s.dir ≠ .zero ∧ s.speedLimit < v) :
    CruiseLaw { s.integrate (dirInt s.dir * v) with fsm := f } := by
  refine ⟨fun hf => ?_, fun hf => ?_⟩
  · exact hv.toInt_ofInt.trans (congrArg (dirInt s.dir * ·) (hc hf))
  · obtain ⟨hdir, hlt⟩ := hd hf
    have hvd := (integrate_vd hv).trans (dirInt_mul_mul_self hdir v)
    exact hlt.trans_eq hvd.symm

/-- The exits of the finite mode are STANDSTILL and DEC_TO_ZERO (40_engine_fsm.md R83). -/
theorem eq_of_finiteExit_getD {s : State} {f g : Fsm} (h : s.finiteExit.getD f = g)
    (hs : g ≠ .standstill) (hd : g ≠ .decToZero) : f = g := by
  rw [finiteExit_getD] at h
  split_ifs at h
  · exact absurd h.symm hs
  · exact absurd h.symm hd
  · exact h

/-- ACC goes to CONST_SPEED with MAX_SPEED alone (40_engine_fsm.md R86). -/
theorem cruiseLaw_acc {s t : State} (hfsm : s.fsm = .acc) (h : handleAcc s = .done t) :
    CruiseLaw t := by
  cases h
  refine CruiseLaw.integrate (newSpeed_acc s) (fun hc => ?_) (fun hd => ?_)
  · have hexit := eq_of_finiteExit_getD hc (by decide) (by decide)
    have hle : s.accSpeed ≤ s.speedLimit := min_le_right _ _
    split_ifs at hexit with hlimit
    · exact le_antisymm hle hlimit
    · rw [hfsm] at hexit; cases hexit
  · have hexit := eq_of_finiteExit_getD hd (by decide) (by decide)
    split_ifs at hexit
    rw [hfsm] at hexit; cases hexit

/-- DEC stays as long as the speed is above MAX_SPEED (40_engine_fsm.md R87). -/
theorem cruiseLaw_dec {s t : State} (hfsm : s.fsm = .dec) (hdir : s.dir ≠ .zero)
    (h : handleDec s = .done t) : CruiseLaw t := by
  cases h
  have hge : s.speedLimit ≤ s.decSpeed := le_max_right _ _
  refine CruiseLaw.integrate (newSpeed_dec s) (fun hc => ?_) (fun hd => ?_)
  · split_ifs at hc with hlimit
    · exact le_antisymm hlimit hge
    · rw [hfsm] at hc; cases hc
  · split_ifs at hd with hlimit
    exact ⟨hdir, not_le.1 hlimit⟩

/-- CONST_SPEED drives at MAX_SPEED (40_engine_fsm.md R88). -/
theorem cruiseLaw_constSpeed {s t : State} (hfsm : s.fsm = .constSpeed)
    (h : handleConstSpeed s = .done t) : CruiseLaw t := by
  cases h
  refine CruiseLaw.integrate (newSpeed_cruise s) (fun _ => rfl) (fun hd => ?_)
  have hexit := eq_of_finiteExit_getD hd (by decide) (by decide)
  rw [hfsm] at hexit; cases hexit

/-- Every handler that ends the phase leaves a speed by the law (40_engine_fsm.md R98). -/
theorem cruiseLaw_of_done {s t : State} (hs : EngineInv s) (h : handle s = .done t) :
    CruiseLaw t := by
  unfold handle at h
  split at h <;> rename_i hfsm
  · unfold handleWait at h
    split_ifs at h
    cases h
    exact .of_fsm (by simp [hfsm]) (by simp [hfsm])
  · unfold handleStart at h
    split_ifs at h
  · exact cruiseLaw_acc hfsm h
  · exact cruiseLaw_dec hfsm (hs.dirSet (by simp [hfsm, isIntegrating])) h
  · exact cruiseLaw_constSpeed hfsm h
  · unfold handleDecToZero at h
    split_ifs at h
    all_goals
      cases h
      exact .of_fsm (by simp [hfsm]) (by simp [hfsm])
  · cases h
    exact .of_fsm (fun hf => by cases hf) (fun hf => by cases hf)
  · unfold handleBrake at h
    split_ifs at h

/-- Settles O48: the FSM phase ends with a handler whose state has the engine's invariant. -/
theorem cruiseSpeedIsTheLimit : Obligations.CruiseSpeedIsTheLimit := by
  intro s t hinv hbusy ht
  obtain ⟨e, frame⟩ := performed_of_exec_tick hbusy ht
  obtain ⟨u, hu, hdone⟩ := runFsm_ends EngineInv
    (fun a b ha hab => by have hb := ha.handle; rw [hab] at hb; exact hb)
    s.countdown hinv.engine.countdown
  have hspeed : s.countdown.runFsm.maxSpeed = s.maxSpeed := (runFsm_frame s.countdown).maxSpeed
  have hlaw := cruiseLaw_of_done hu hdone
  unfold CruiseLaw at hlaw
  rw [← e.fsm, ← e.vel, ← e.dir, hspeed, ← frame.sameMaxSpeed] at hlaw
  exact hlaw

/-! ### The mirror image of a tick -/

section Mirror
variable {s s' : State}

/-- The speed along DIR of the mirror image is the same. -/
theorem Mirrored.vd_eq (h : Mirrored s s') : s'.vd = s.vd := by
  simp [State.vd, h.vel, h.dir]

/-- The remaining distance along DIR of the mirror image is the same. -/
theorem Mirrored.remaining_eq (h : Mirrored s s') : s'.remaining = s.remaining := by
  simp only [State.remaining, h.target, h.pos, h.dir, dirInt_flipDir]; ring

/-- The limits of the mirror image are the same. -/
theorem Mirrored.limits_eq (h : Mirrored s s') :
    s'.speedLimit = s.speedLimit ∧ s'.accelLimit = s.accelLimit := by
  simp [State.speedLimit, State.accelLimit, h.maxSpeed, h.maxAccel]

/-- The mirror image is in the finite mode where the state is. -/
theorem Mirrored.jog_eq_zero (h : Mirrored s s') : s'.jog = .zero ↔ s.jog = .zero := by
  rw [h.jog, flipDir_eq_zero]

/-- The mirror image is at its target where the state is. -/
theorem Mirrored.target_eq_pos (h : Mirrored s s') : s'.target = s'.pos ↔ s.target = s.pos := by
  rw [← BitVec.toInt_inj, ← BitVec.toInt_inj, h.target, h.pos, neg_inj]

/-- The mirror image is at VEL = 0 where the state is. -/
theorem Mirrored.vel_eq_zero (h : Mirrored s s') : s'.vel = 0 ↔ s.vel = 0 := by
  rw [← BitVec.toInt_inj, ← BitVec.toInt_inj, h.vel]; simp

/-- Only a VEL of the symmetric range has a mirror image. -/
theorem Mirrored.vel_bounds (h : Mirrored s s') :
    -2 ^ 31 < s.vel.toInt ∧ s.vel.toInt < 2 ^ 31 := by
  have hrange := vel_range s.vel
  have hrange' := vel_range s'.vel
  rw [h.vel] at hrange'
  omega

/-- The mirror image takes the same exits of the finite mode (40_engine_fsm.md R83). -/
theorem Mirrored.finiteExit_eq (h : Mirrored s s') : s'.finiteExit = s.finiteExit := by
  simp only [State.finiteExit, State.finiteChecks, h.vd_eq, h.remaining_eq, h.limits_eq.2,
    h.jog_eq_zero]

/-- START decides the mirrored direction (40_engine_fsm.md R85). -/
theorem Mirrored.startDir_eq (h : Mirrored s s') : s'.startDir = flipDir s.startDir := by
  have hdelta : s'.target.toInt - s'.pos.toInt = -(s.target.toInt - s.pos.toInt) := by
    rw [h.target, h.pos]; ring
  simp only [State.startDir, hdelta, signDir_neg, h.jog, h.vel, h.limits_eq.2, dirInt_flipDir,
    neg_mul_neg, ne_eq, flipDir_eq_zero]
  split_ifs <;> rfl

/-- BRAKE stops at the mirrored position (40_engine_fsm.md R91). -/
theorem Mirrored.stopPos_eq (h : Mirrored s s') : s'.stopPos = -s.stopPos := by
  simp only [State.stopPos, h.pos, h.vel, signDir_neg, dirInt_flipDir, neg_mul_neg,
    h.limits_eq.2]
  ring

/-- The handlers choose the same speed along DIR for the mirror image (40_engine_fsm.md R86, R87,
R89). -/
theorem Mirrored.newSpeeds_eq (h : Mirrored s s') :
    s'.accSpeed = s.accSpeed ∧ s'.decSpeed = s.decSpeed ∧ s'.stopSpeed = s.stopSpeed := by
  simp only [State.accSpeed, State.decSpeed, State.stopSpeed, State.stopDecel, h.vd_eq,
    h.remaining_eq, h.limits_eq, and_self]

/-- The two states in the same FSM state. -/
theorem Mirrored.goTo (h : Mirrored s s') (f : Fsm) :
    Mirrored { s with fsm := f } { s' with fsm := f } := { h with fsm := rfl }

/-- A position that does not wrap is mirrored as it is stored (00_scope.md R10). -/
theorem wrap64_neg {x : Int} (hlow : -2 ^ 63 < x) (hhigh : x < 2 ^ 63) :
    (wrap64 (-x)).toInt = -(wrap64 x).toInt := by
  rw [(wrap64_toInt_iff x).2 (by omega), (wrap64_toInt_iff (-x)).2 (by omega)]

/-- A state and its mirror image, with POS so far from the ends of the range that no tick wraps
it. -/
structure MirrorPair (s s' : State) : Prop extends Mirrored s s' where
  posLow : -2 ^ 62 < s.pos.toInt
  posHigh : s.pos.toInt < 2 ^ 62

/-- The integrated position is the mirrored one, and does not wrap (40_engine_fsm.md R82). -/
theorem MirrorPair.integratedPos (h : MirrorPair s s') (w : Int) (hw : -2 ^ 31 < w ∧ w < 2 ^ 31) :
    s'.integratedPos (-w) = -s.integratedPos w ∧
      -2 ^ 63 < s.integratedPos w ∧ s.integratedPos w < 2 ^ 63 := by
  have hvel := h.vel_bounds
  have hlow := h.posLow
  have hhigh := h.posHigh
  obtain ⟨hup, hdown⟩ := tdiv_two_bounds (s.vel.toInt + w)
  constructor
  · have hsum : -s.vel.toInt + -w = -(s.vel.toInt + w) := by ring
    simp only [State.integratedPos, tdiv, h.pos, h.vel, hsum, Int.neg_tdiv]
    ring
  · unfold State.integratedPos tdiv
    omega

/-- Integrating the same speed along DIR gives the mirror image (40_engine_fsm.md R82). -/
theorem MirrorPair.integrate (h : MirrorPair s s') (v : Int) (hv : NewSpeed s v) :
    Mirrored (s.integrate (dirInt s.dir * v)) (s'.integrate (dirInt s'.dir * v)) := by
  have hvd := vd_bounds s (fun hmin => by
    have hvel := h.vel_bounds
    rw [hmin] at hvel
    exact absurd hvel (by decide))
  have hlimit := speedLimit_bounds s
  obtain ⟨hlow, hhigh⟩ := hv
  have hw := dirInt_mul_bounds s.dir v (by omega)
  have hmirror : dirInt s'.dir * v = -(dirInt s.dir * v) := by
    rw [h.dir, dirInt_flipDir, neg_mul]
  obtain ⟨hpos, hposLow, hposHigh⟩ := h.integratedPos _ hw
  rw [hmirror]
  exact { h.toMirrored with
    pos := by rw [integrate_pos, integrate_pos, hpos, wrap64_neg hposLow hposHigh]
    vel := by
      rw [integrate_vel, integrate_vel, toInt_ofInt_32 _ (by omega) (by omega),
        toInt_ofInt_32 _ (by omega) (by omega)] }

/-- How the ends of a handler in a state and in its mirror image correspond. -/
def HandlerEnd.Mirrored : HandlerEnd → HandlerEnd → Prop
  | .again a, .again a' => MirrorPair a a'
  | .done a, .done a' => Machine.Mirrored a a'
  | .again _, .done _ => False
  | .done _, .again _ => False

/-- Where both states decide a condition alike, their handlers end alike. -/
theorem HandlerEnd.Mirrored.ite {p p' : Prop} [Decidable p] [Decidable p'] (hp : p' ↔ p)
    {a a' b b' : HandlerEnd} (ha : p → a.Mirrored a') (hb : ¬ p → b.Mirrored b') :
    (if p then a else b).Mirrored (if p' then a' else b') := by
  by_cases h : p
  · rw [if_pos h, if_pos (hp.2 h)]; exact ha h
  · rw [if_neg h, if_neg (mt hp.1 h)]; exact hb h

/-- WAIT (40_engine_fsm.md R84). -/
theorem MirrorPair.handleWait (h : MirrorPair s s') :
    (handleWait s).Mirrored (handleWait s') :=
  .ite (or_congr (not_congr h.jog_eq_zero) (not_congr h.target_eq_pos))
    (fun _ => { h with moving := rfl, fcount := h.len, fsm := rfl }) (fun _ => h.toMirrored)

/-- START (40_engine_fsm.md R85). -/
theorem MirrorPair.handleStart (h : MirrorPair s s') :
    (handleStart s).Mirrored (handleStart s') := by
  have hdir := h.startDir_eq
  have hvd : s'.vel.toInt * dirInt s'.startDir = s.vel.toInt * dirInt s.startDir := by
    rw [h.vel, hdir, dirInt_flipDir, neg_mul_neg]
  refine .ite (by rw [hdir, flipDir_eq_zero]) (fun _ => { h with fsm := rfl }) fun _ => ?_
  exact .ite (by rw [hvd, h.limits_eq.1]) (fun _ => { h with dir := hdir, fsm := rfl })
    (fun _ => { h with dir := hdir, fsm := rfl })

/-- ACC (40_engine_fsm.md R86). -/
theorem MirrorPair.handleAcc (h : MirrorPair s s') : (handleAcc s).Mirrored (handleAcc s') := by
  obtain ⟨hspeed, -, -⟩ := h.newSpeeds_eq
  have hint : Mirrored s.accIntegrated s'.accIntegrated := by
    unfold State.accIntegrated; rw [hspeed]; exact h.integrate _ (newSpeed_acc s)
  unfold Machine.handleAcc
  rw [hint.finiteExit_eq, h.limits_eq.1, hspeed, h.fsm]
  exact hint.goTo _

/-- DEC (40_engine_fsm.md R87). -/
theorem MirrorPair.handleDec (h : MirrorPair s s') : (handleDec s).Mirrored (handleDec s') := by
  obtain ⟨-, hspeed, -⟩ := h.newSpeeds_eq
  unfold Machine.handleDec
  rw [h.limits_eq.1, hspeed, h.fsm]
  exact (h.integrate _ (newSpeed_dec s)).goTo _

/-- CONST_SPEED (40_engine_fsm.md R88). -/
theorem MirrorPair.handleConstSpeed (h : MirrorPair s s') :
    (handleConstSpeed s).Mirrored (handleConstSpeed s') := by
  have hint : Mirrored s.cruiseIntegrated s'.cruiseIntegrated := by
    unfold State.cruiseIntegrated; rw [h.limits_eq.1]; exact h.integrate _ (newSpeed_cruise s)
  unfold Machine.handleConstSpeed
  rw [hint.finiteExit_eq, h.fsm]
  exact hint.goTo _

/-- DEC_TO_ZERO (40_engine_fsm.md R89). -/
theorem MirrorPair.handleDecToZero (h : MirrorPair s s') :
    (handleDecToZero s).Mirrored (handleDecToZero s') := by
  obtain ⟨-, -, hspeed⟩ := h.newSpeeds_eq
  refine .ite (by rw [h.remaining_eq, h.vd_eq]) (fun _ => { h with fsm := rfl }) fun hguard => ?_
  have hint : Mirrored s.stopIntegrated s'.stopIntegrated := by
    unfold State.stopIntegrated
    rw [hspeed]
    exact h.integrate _ (newSpeed_stop (not_le.1 (not_or.1 hguard).2))
  rw [hint.remaining_eq, hspeed, h.fsm]
  exact hint.goTo _

/-- STANDSTILL (40_engine_fsm.md R90). -/
theorem MirrorPair.handleStandstill (h : MirrorPair s s') :
    (handleStandstill s).Mirrored (handleStandstill s') :=
  { h.toMirrored with vel := rfl, pos := h.target, dir := rfl, moving := rfl, fsm := rfl }

/-- The stop position of BRAKE does not wrap (40_engine_fsm.md R91). -/
theorem MirrorPair.stopPos_bounds (h : MirrorPair s s') :
    -2 ^ 63 < s.stopPos ∧ s.stopPos < 2 ^ 63 := by
  have hlow := h.posLow
  have hhigh := h.posHigh
  obtain ⟨hvlow, hvhigh⟩ := h.vel_bounds
  have hsq : s.vel.toInt * s.vel.toInt < 2 ^ 62 := by nlinarith
  have hacc := accelLimit_nonneg s
  have hnonneg : 0 ≤ fdiv (s.vel.toInt * s.vel.toInt) (2 * s.accelLimit) :=
    Int.fdiv_nonneg (mul_self_nonneg _) (by omega)
  have hle : fdiv (s.vel.toInt * s.vel.toInt) (2 * s.accelLimit) ≤ s.vel.toInt * s.vel.toInt := by
    unfold fdiv
    rw [Int.fdiv_eq_ediv_of_nonneg _ (by omega)]
    exact Int.ediv_le_self _ (mul_self_nonneg _)
  unfold State.stopPos
  generalize fdiv (s.vel.toInt * s.vel.toInt) (2 * s.accelLimit) = q at hnonneg hle ⊢
  cases signDir s.vel.toInt <;> simp only [dirInt] <;> omega

/-- BRAKE (40_engine_fsm.md R91). -/
theorem MirrorPair.handleBrake (h : MirrorPair s s') :
    (handleBrake s).Mirrored (handleBrake s') := by
  obtain ⟨hlow, hhigh⟩ := h.stopPos_bounds
  refine .ite h.vel_eq_zero (fun _ => ?_) (fun _ => ?_)
  · exact { h with target := h.pos, jog := rfl, fsm := rfl }
  · exact { h with
      target := h.stopPos_eq ▸ wrap64_neg hlow hhigh
      jog := rfl
      dir := h.vel ▸ signDir_neg _
      fsm := rfl }

/-- Every handler does the mirror image to the mirror image (40_engine_fsm.md R82). -/
theorem MirrorPair.handle (h : MirrorPair s s') : (handle s).Mirrored (handle s') := by
  have hfsm := h.fsm
  unfold Machine.handle
  rw [hfsm]
  cases s.fsm with
  | wait => exact h.handleWait
  | start => exact h.handleStart
  | acc => exact h.handleAcc
  | dec => exact h.handleDec
  | constSpeed => exact h.handleConstSpeed
  | decToZero => exact h.handleDecToZero
  | standstill => exact h.handleStandstill
  | brake => exact h.handleBrake

/-- So does the re-dispatch loop (40_engine_fsm.md R79). -/
theorem MirrorPair.dispatchLoop {snap snap' : State} (hsnap : Mirrored snap snap') (n : Nat)
    (h : MirrorPair s s') :
    Mirrored (dispatchLoop snap n s) (dispatchLoop snap' n s') := by
  induction n generalizing s s' with
  | zero =>
    exact { hsnap with maxSpeed := h.maxSpeed, maxAccel := h.maxAccel, len := h.len }
  | succ n ih =>
    have hend := h.handle
    rw [Machine.dispatchLoop, Machine.dispatchLoop]
    cases hs : Machine.handle s <;> cases hs' : Machine.handle s' <;> rw [hs, hs'] at hend
    · exact ih hend
    · exact hend.elim
    · exact hend.elim
    · exact hend

/-- Phase 1 counts down in the mirror image alike (41_filter_commutator.md R101). -/
theorem MirrorPair.countdown (h : MirrorPair s s') : MirrorPair s.countdown s'.countdown :=
  { h with fcount := by rw [countdown_fcount, countdown_fcount, h.moving, h.fcount] }

end Mirror

/-- Settles O51: phase 1 and the FSM phase commute with the mirror, and the other phases write
nothing that it speaks of. -/
theorem tickCommutesWithMirror : Obligations.TickCommutesWithMirror := by
  intro s s' t t' h hbusy hbusy' _ _ hpos _ ht ht'
  have hpair : MirrorPair s s' := { h with posLow := by omega, posHigh := by omega }
  have hfsm : Mirrored s.countdown.runFsm s'.countdown.runFsm :=
    hpair.countdown.dispatchLoop hpair.countdown.toMirrored Config.cap
  obtain ⟨e, frame⟩ := performed_of_exec_tick hbusy ht
  obtain ⟨e', frame'⟩ := performed_of_exec_tick hbusy' ht'
  exact {
    pos := by rw [e'.pos, e.pos, hfsm.pos]
    target := by rw [e'.target, e.target, hfsm.target]
    vel := by rw [e'.vel, e.vel, hfsm.vel]
    dir := by rw [e'.dir, e.dir, hfsm.dir]
    jog := by rw [e'.jog, e.jog, hfsm.jog]
    fsm := by rw [e'.fsm, e.fsm, hfsm.fsm]
    moving := by rw [e'.moving, e.moving, hfsm.moving]
    fcount := by rw [e'.fcount, e.fcount, hfsm.fcount]
    maxSpeed := by rw [frame'.sameMaxSpeed, frame.sameMaxSpeed, h.maxSpeed]
    maxAccel := by rw [frame'.sameMaxAccel, frame.sameMaxAccel, h.maxAccel]
    len := by rw [frame'.sameCfg, frame.sameCfg, h.len] }

end Sys2Proof.Machine

/-! ## The family of the filter and the commutator: where FPOS lies, how it settles, and what the
sine LUT holds (41_filter_commutator.md) -/

namespace Sys2Proof.Machine

/-! ### The filtered position -/

/-- FPOS is the floor of the mean of BUF (41_filter_commutator.md R105). -/
theorem fpos_eq_ediv (s : State) : s.fpos = s.sum / (s.cfg.len : Int) := by
  unfold State.fpos asr Config.len
  push_cast
  exact Int.fdiv_eq_ediv_of_nonneg _ (by positivity)

/-- A list of positions whose mean is at least `y` has an entry that is. -/
theorem exists_ge_of_le_bufTotal {b : List Pos} (hb : b ≠ []) {y : Int}
    (h : (b.length : Int) * y ≤ bufTotal b) : ∃ x ∈ b, y ≤ x.toInt :=
  List.exists_le_of_sum_le hb (fun _ => y) BitVec.toInt (by simpa [bufTotal] using h)

/-- A list of positions whose mean is below `y` has an entry that is. -/
theorem exists_lt_of_bufTotal_lt {b : List Pos} {y : Int}
    (h : bufTotal b < (b.length : Int) * y) : ∃ x ∈ b, x.toInt < y :=
  List.exists_lt_of_sum_lt BitVec.toInt (fun _ => y) (by simpa [bufTotal] using h)

/-- Settles O15: FPOS is the floor of the mean of BUF, and a mean lies between two entries. -/
theorem fposLiesBetweenBufEntries : Obligations.FposLiesBetweenBufEntries := by
  intro s h
  have hlen : (0 : Int) < s.cfg.len := by exact_mod_cast len_pos s.cfg
  have hbuf : s.buf ≠ [] := List.length_pos_iff.1 (h.bufLength ▸ len_pos s.cfg)
  have hlow : (s.cfg.len : Int) * s.fpos ≤ s.sum := by
    rw [fpos_eq_ediv]; exact Int.mul_ediv_self_le hlen.ne'
  have hhigh : s.sum < (s.cfg.len : Int) * (s.fpos + 1) := by
    rw [fpos_eq_ediv]; exact Int.lt_mul_ediv_self_add hlen |>.trans_eq (by ring)
  rw [h.sumIsTotal, ← h.bufLength] at hlow hhigh
  obtain ⟨lo, hlo, hlofpos⟩ := exists_lt_of_bufTotal_lt hhigh
  obtain ⟨hi, hhi, hfposhi⟩ := exists_ge_of_le_bufTotal hbuf hlow
  have hfits : -(2 ^ 63) ≤ s.fpos ∧ s.fpos < 2 ^ 63 := by
    have := lo.le_toInt
    have := hi.toInt_lt
    omega
  exact ⟨⟨lo, hlo, by omega⟩, ⟨hi, hhi, hfposhi⟩, (wrap64_toInt_iff _).2 hfits⟩

/-! ### Settling -/

/-- Where every entry of BUF is `x`, so is FPOS (41_filter_commutator.md R105). -/
theorem fpos_of_buf_eq_replicate {s : State} {x : Pos} (hsum : s.sum = bufTotal s.buf)
    (hbuf : s.buf = List.replicate s.cfg.len x) : s.fpos = x.toInt := by
  rw [State.fpos, hsum, hbuf, bufTotal_replicate]
  exact asr_pow_mul s.cfg.log2L x.toInt

/-- The state `t` that `n` more ticks without a trigger leave after the tick from `s` whose
STANDSTILL handler cleared MOVING: all these ticks have pushed the target, into the entries from the
WIDX of `s` on, around the ring (41_filter_commutator.md R101 to R103). -/
structure SettledFor (s t : State) (n : Nat) : Prop where
  inv : Inv t
  cfg : t.cfg = s.cfg
  fsm : t.fsm = .wait
  jog : t.jog = .zero
  target : t.target = s.target
  pos : t.pos = s.target
  fcount : t.fcount = s.cfg.len - n
  widx : t.widx = (s.widx + (n + 1)) % s.cfg.len
  pushed : ∀ i ≤ n, t.buf.getD ((s.widx + i) % s.cfg.len) 0 = s.target

/-- The raw motion is over (10_state.md R23). -/
theorem SettledFor.moving {s t : State} {n : Nat} (h : SettledFor s t n) : t.moving = false := by
  simpa [h.fsm] using h.inv.movingIff

/-- BUSY is never set where STEP_CLOCKS = 1 (20_memory.md R63). -/
theorem Inv.idle {s : State} (h : Inv s) (hclocks : s.cfg.stepClocks = 1) : s.busyLeft = 0 := by
  have := h.busyInRange
  omega

/-- A tick keeps the invariant. -/
theorem Inv.of_exec_tick {s t : State} (h : Inv s) (ht : exec .tick s = .next t) : Inv t :=
  (exec_effect .tick s t ht).keeps_inv h

/-- The tick that runs STANDSTILL ends with FCOUNT = L and has pushed the target once
(40_engine_fsm.md R90, 41_filter_commutator.md R102). -/
theorem settledFor_zero {s : State} (h : Inv s) (hclocks : s.cfg.stepClocks = 1)
    (hfsm : s.fsm = .standstill) (hjog : s.jog = .zero) :
    ∃ t, exec .tick s = .next t ∧ SettledFor s t 0 := by
  obtain ⟨t, ht, frame, htfsm, htpos, -, -, -, httarget, htjog, htfcount, -⟩ :=
    standstillTickRule s hfsm (h.idle hclocks)
  have hmoving : s.moving = true := h.movingIff.2 (by simp [hfsm])
  have hwidx : s.widx < s.buf.length := h.bufLength ▸ h.widxInRange
  refine ⟨t, ht, {
    inv := h.of_exec_tick ht
    cfg := frame.sameCfg
    fsm := htfsm
    jog := htjog.trans hjog
    target := httarget
    pos := htpos
    fcount := by simpa [htfcount, countedDown, hmoving] using h.fcountMoving (by simp [hfsm])
    widx := frame.widxMoved
    pushed := fun i hi => ?_ }⟩
  obtain rfl : i = 0 := by omega
  rw [Nat.add_zero, Nat.mod_eq_of_lt h.widxInRange, frame.bufPushed, htpos]
  simp [hwidx]

/-- One more tick without a trigger counts FCOUNT down and pushes the target once more
(41_filter_commutator.md R101, R103). -/
theorem SettledFor.tick {s t : State} {n : Nat} (h : SettledFor s t n)
    (hclocks : s.cfg.stepClocks = 1) :
    ∃ u, exec .tick t = .next u ∧ SettledFor s u (n + 1) := by
  have hbusy : t.busyLeft = 0 := h.inv.idle (h.cfg ▸ hclocks)
  obtain ⟨u, hu, frame, hufsm, hupos, -, -, -, hutarget, hujog, hufcount, -⟩ :=
    (waitTickRule t h.fsm hbusy).1 h.jog (h.target.trans h.pos.symm)
  have hwidx : t.widx < t.buf.length := h.inv.bufLength ▸ h.inv.widxInRange
  refine ⟨u, hu, {
    inv := h.inv.of_exec_tick hu
    cfg := frame.sameCfg.trans h.cfg
    fsm := hufsm
    jog := hujog.trans h.jog
    target := hutarget.trans h.target
    pos := hupos.trans h.pos
    fcount := by
      rw [hufcount, countedDown, h.fcount]
      simp only [h.moving, true_and]
      split <;> omega
    widx := by
      rw [frame.widxMoved, h.widx, h.cfg, ← Config.len, Nat.mod_add_mod, Nat.add_assoc]
    pushed := fun i hi => ?_ }⟩
  rw [frame.bufPushed, hupos, h.pos]
  by_cases hnew : (s.widx + i) % s.cfg.len = t.widx
  · simp [hnew, hwidx]
  · have hold : i ≤ n := by
      by_contra hlast
      exact hnew (by rw [h.widx, show i = n + 1 by omega])
    rw [← h.pushed i hold]
    simp [List.getElem?_set_ne (Ne.symm hnew)]

/-- Any number of further ticks without a trigger. -/
theorem SettledFor.ticks {s t : State} {n : Nat} (h : SettledFor s t n)
    (hclocks : s.cfg.stepClocks = 1) (m : Nat) :
    ∃ u, runOps (List.replicate m .tick) t = .next u ∧ SettledFor s u (n + m) := by
  induction m generalizing t n with
  | zero => exact ⟨t, rfl, h⟩
  | succ m ih =>
    obtain ⟨v, hv, hsettled⟩ := h.tick hclocks
    obtain ⟨u, hu, hend⟩ := ih hsettled
    exact ⟨u, (runOps_cons_next _ _ t u).2 ⟨v, hv, hu⟩, by rwa [Nat.add_comm m, ← Nat.add_assoc]⟩

/-- L pushes go once around the ring, so each entry of BUF is the target (41_filter_commutator.md
R103). -/
theorem SettledFor.buf_eq_replicate {s t : State} {n : Nat} (h : SettledFor s t n)
    (hwidx : s.widx < s.cfg.len) (hn : s.cfg.len ≤ n + 1) :
    t.buf = List.replicate t.cfg.len s.target := by
  refine List.ext_getElem (by simp [h.inv.bufLength]) fun j hj _ => ?_
  have hjlen : j < s.cfg.len := by rw [← h.cfg, ← h.inv.bufLength]; exact hj
  -- entry `j` was written by the push that came as many ticks after the first as `j` is after WIDX
  have hreach : (s.widx + (j + s.cfg.len - s.widx) % s.cfg.len) % s.cfg.len = j := by
    rw [Nat.add_mod_mod, show s.widx + (j + s.cfg.len - s.widx) = j + s.cfg.len by omega,
      Nat.add_mod_right, Nat.mod_eq_of_lt hjlen]
  have hi : (j + s.cfg.len - s.widx) % s.cfg.len < s.cfg.len := Nat.mod_lt _ (len_pos _)
  have hpushed := h.pushed _ (by omega : (j + s.cfg.len - s.widx) % s.cfg.len ≤ n)
  rw [hreach] at hpushed
  simpa [hj] using hpushed

/-- Settles O50: the tick of STANDSTILL, then `n` ticks at rest. -/
theorem settlingTakesExactlyLTicks : Obligations.SettlingTakesExactlyLTicks := by
  intro n s h hclocks hfsm hjog
  obtain ⟨v, hv, hstart⟩ := settledFor_zero h hclocks hfsm hjog
  obtain ⟨t, ht, hend⟩ := hstart.ticks hclocks n
  rw [Nat.zero_add] at hend
  refine ⟨t, (runOps_cons_next _ _ s t).2 ⟨v, hv, ht⟩, hend.fsm, hend.moving, hend.pos,
    hend.fcount, fun hn => ?_⟩
  exact fpos_of_buf_eq_replicate hend.inv.sumIsTotal (hend.buf_eq_replicate h.widxInRange hn)

/-! ### The entries of the sine LUT -/

/-- The bounds that a legal build gives the LUT (00_scope.md R6). -/
theorem lut_bounds_of_wf {c : Config} (h : c.wf = true) :
    2 ≤ c.lutBits ∧ c.lutBits ≤ c.p ∧ 2 ≤ c.range ∧ c.range ≤ 65536 := by
  simp only [Config.wf, Bool.and_eq_true, decide_eq_true_eq] at h
  omega

/-- `round_half_up((1/2 + v/2) * (RANGE - 1))` of 41_filter_commutator.md R109, over the reals. -/
noncomputable def roundedEntry (range : Nat) (v : ℝ) : ℤ :=
  ⌊(1 / 2 + v / 2) * ((range : ℝ) - 1) + 1 / 2⌋

/-- When an entry is at least `n`. -/
theorem le_roundedEntry_iff (range : Nat) (v : ℝ) (n : ℤ) :
    n ≤ roundedEntry range v ↔ 2 * (n : ℝ) - range ≤ v * ((range : ℝ) - 1) := by
  rw [roundedEntry, Int.le_floor]
  constructor <;> intro h <;> linarith

/-- The entries for values of a sine lie in 0 .. RANGE-1 (41_filter_commutator.md R109). -/
theorem roundedEntry_bounds {range : Nat} {v : ℝ} (hrange : 2 ≤ range) (hlow : -1 ≤ v)
    (hhigh : v ≤ 1) : 0 ≤ roundedEntry range v ∧ roundedEntry range v < range := by
  have hrange' : (2 : ℝ) ≤ range := by exact_mod_cast hrange
  constructor
  · rw [le_roundedEntry_iff]; push_cast; nlinarith
  · rw [← not_le, le_roundedEntry_iff]; push_cast; nlinarith

/-- The test of the LUT's search compares with the real entry: the comparison of the cosine decides
it, and the test against RANGE holds where the comparison does. -/
theorem entryAtLeast_iff {range m j : Nat} (hrange : 2 ≤ range) (hj : j ≤ 2 ^ m) (n : Nat) :
    entryAtLeast range m j n = true ↔
      (n : ℤ) ≤ roundedEntry range (Real.cos (dyadicAngle m j)) := by
  have hcompare :=
    (compareCos_spec m j (2 * (n : Int) - range) ((range : Int) - 1) hj (by omega)).1
  push_cast at hcompare
  have hbelow := (roundedEntry_bounds hrange (Real.neg_one_le_cos _)
    (Real.cos_le_one (dyadicAngle m j))).2
  have hentry : (compareCos m j (2 * (n : Int) - range) ((range : Int) - 1) ≠ .lt) ↔
      (n : ℤ) ≤ roundedEntry range (Real.cos (dyadicAngle m j)) := by
    rw [Ne, hcompare, not_lt, le_roundedEntry_iff]; push_cast; rfl
  simp only [entryAtLeast, Bool.and_eq_true, decide_eq_true_eq, bne_iff_ne, hentry]
  omega

/-- An entry of the LUT is the rounded value of the real cosine (41_filter_commutator.md R109). -/
theorem lutEntry_eq_roundedEntry {range m j : Nat} (hrange : 2 ≤ range) (hmax : range ≤ 65536)
    (hj : j ≤ 2 ^ m) :
    (lutEntry range m j : ℤ) = roundedEntry range (Real.cos (dyadicAngle m j)) := by
  obtain ⟨hlow, hhigh⟩ := roundedEntry_bounds hrange (Real.neg_one_le_cos _)
    (Real.cos_le_one (dyadicAngle m j))
  obtain ⟨v, hv⟩ := Int.eq_ofNat_of_zero_le hlow
  have hfound : lutEntry range m j = v :=
    greatest_eq _ v (fun n _ => by rw [entryAtLeast_iff hrange hj, hv]; exact Nat.cast_le)
      16 0 (Nat.zero_le _) (by omega)
  rw [hfound, hv]

/-! ### The angles of the sine LUT -/

/-- The angle of the opposite entry: `-cos(x) = cos(π - x)`. -/
theorem cos_dyadicAngle_opposite {m j : Nat} (hj : j ≤ 2 ^ m) :
    Real.cos (dyadicAngle m (2 ^ m - j)) = -Real.cos (dyadicAngle m j) := by
  have hangle : dyadicAngle m (2 ^ m - j) = Real.pi - dyadicAngle m j := by
    unfold dyadicAngle
    push_cast [Nat.cast_sub hj]
    field_simp
  rw [hangle, Real.cos_pi_sub]

/-- The distance from the quarter turn is at most half a turn. -/
theorem sineAngle_le {b k : Nat} (hk : k < 2 ^ (b + 2)) :
    sineAngle (2 ^ (b + 2)) k ≤ 2 ^ (b + 1) := by
  have hfour : 2 ^ (b + 2) = 4 * 2 ^ b := by ring
  have htwo : 2 ^ (b + 1) = 2 * 2 ^ b := by ring
  simp only [sineAngle]
  split <;> split <;> omega

/-- The cosine of the distance from the quarter turn is the sine (41_filter_commutator.md R109). -/
theorem cos_sineAngle {b k : Nat} (hk : k < 2 ^ (b + 2)) :
    Real.cos (dyadicAngle (b + 1) (sineAngle (2 ^ (b + 2)) k)) =
      Real.sin (2 * Real.pi * k / 2 ^ (b + 2)) := by
  have hfour : 2 ^ (b + 2) = 4 * 2 ^ b := by ring
  have hquarter : 2 ^ (b + 2) / 4 = 2 ^ b := by omega
  have hhalf : 2 ^ (b + 2) / 2 = 2 * 2 ^ b := by omega
  simp only [sineAngle, hquarter, hhalf]
  -- the angle is `π/2 - x`, `x - π/2` or `2π - (x - π/2)`, for the angle `x` of the sine
  split_ifs with hbefore hnear hnear
  · rw [← Real.cos_pi_div_two_sub]
    congr 1
    unfold dyadicAngle
    push_cast [Nat.cast_sub hbefore.le, pow_succ]
    field_simp
  · omega
  · rw [← Real.cos_sub_pi_div_two]
    congr 1
    unfold dyadicAngle
    push_cast [Nat.cast_sub (not_lt.1 hbefore), pow_succ]
    field_simp
  · rw [← Real.cos_sub_pi_div_two, ← Real.cos_two_pi_sub]
    congr 1
    unfold dyadicAngle
    rw [Nat.cast_sub (by omega), Nat.cast_sub (not_lt.1 hbefore)]
    push_cast [pow_succ]
    field_simp
    ring

/-- Both tables of a legal build hold the rounded values of the real sine and of its negative
(41_filter_commutator.md R109). -/
theorem lutS_lutT_eq_roundedEntry {c : Config} (h : c.wf = true) {k : Nat}
    (hk : k < 2 ^ c.lutBits) :
    (lutS c k : ℤ) = roundedEntry c.range (Real.sin (2 * Real.pi * k / 2 ^ c.lutBits)) ∧
    (lutT c k : ℤ) = roundedEntry c.range (-Real.sin (2 * Real.pi * k / 2 ^ c.lutBits)) := by
  obtain ⟨hbits, -, hrange, hmax⟩ := lut_bounds_of_wf h
  obtain ⟨b, hb⟩ : ∃ b, c.lutBits = b + 2 := ⟨c.lutBits - 2, by omega⟩
  rw [hb] at hk
  have hle := sineAngle_le hk
  have hhalf : 2 ^ (b + 2) / 2 = 2 ^ (b + 1) := by rw [pow_succ 2 (b + 1)]; omega
  simp only [lutS, lutT, lutSize, hb, hhalf, show b + 2 - 1 = b + 1 from rfl]
  rw [lutEntry_eq_roundedEntry hrange hmax hle,
    lutEntry_eq_roundedEntry hrange hmax (Nat.sub_le _ _), cos_dyadicAngle_opposite hle,
    cos_sineAngle hk]
  exact ⟨rfl, rfl⟩

/-- Settles O53: the search decides each entry by comparing the real sine. -/
theorem lutIsTheRoundedRealSine : Obligations.LutIsTheRoundedRealSine := by
  intro c k h hk
  obtain ⟨hS, hT⟩ := lutS_lutT_eq_roundedEntry h hk
  refine ⟨hS, hT.trans ?_⟩
  rw [roundedEntry, neg_div, ← sub_eq_add_neg]

/-! ### The sum of a pair -/

/-- Two entries of opposite values sum to RANGE - 1, or to RANGE where neither is rounded: then the
value is rational (41_filter_commutator.md R109, "Ties"). -/
theorem roundedEntry_add_neg (range : Nat) (v : ℝ) :
    roundedEntry range v + roundedEntry range (-v) = range - 1 ∨
      roundedEntry range v + roundedEntry range (-v) = range ∧
        v * ((range : ℝ) - 1) = 2 * roundedEntry range v - range := by
  have hS := (le_roundedEntry_iff range v _).1 le_rfl
  have hT := (le_roundedEntry_iff range (-v) _).1 le_rfl
  have hS' := (le_roundedEntry_iff range v (roundedEntry range v + 1)).not.1 (by omega)
  have hT' := (le_roundedEntry_iff range (-v) (roundedEntry range (-v) + 1)).not.1 (by omega)
  generalize roundedEntry range v = S at *
  generalize roundedEntry range (-v) = T at *
  push_cast at hS' hT'
  have hle : S + T ≤ range := by rify; linarith
  have hgt : (range : ℤ) < S + T + 2 := by rify; linarith
  obtain hsum | hsum : S + T = range - 1 ∨ S + T = range := by omega
  · exact .inl hsum
  · have hsum' : (S : ℝ) + T = range := by exact_mod_cast hsum
    exact .inr ⟨hsum, by linarith⟩

/-- A third of a half turn is no dyadic part of it. -/
theorem three_mul_ne_two_pow (j n : Nat) : 3 * j ≠ 2 ^ n := fun h =>
  absurd (Nat.prime_three.dvd_of_dvd_pow ⟨j, h.symm⟩) (by decide)

/-- A dyadic part of a half turn with a rational cosine is none, a quarter turn or a half turn:
Niven's theorem leaves the thirds beside them (41_filter_commutator.md R109, "Ties"). -/
theorem cos_dyadicAngle_of_rational {m j : Nat} (hj : j ≤ 2 ^ m) {q : ℚ}
    (hq : Real.cos (dyadicAngle m j) = q) :
    Real.cos (dyadicAngle m j) = 0 ∨ Real.cos (dyadicAngle m j) = 1 ∨
      Real.cos (dyadicAngle m j) = -1 := by
  have hpi := Real.pi_pos
  have hle : dyadicAngle m j ≤ Real.pi := by
    have : (j : ℝ) ≤ 2 ^ m := by exact_mod_cast hj
    unfold dyadicAngle
    rw [div_le_iff₀ (by positivity)]
    gcongr
  have hrational : dyadicAngle m j = ((j / 2 ^ m : ℚ) : ℝ) * Real.pi := by
    unfold dyadicAngle; push_cast; ring
  have hthird (a : Nat) (h : dyadicAngle m j = Real.pi * (2 ^ a / 3)) : False := by
    refine three_mul_ne_two_pow j (a + m) ?_
    have : (3 * j : ℝ) = 2 ^ (a + m) := by
      unfold dyadicAngle at h
      field_simp at h
      rw [pow_add]
      linarith
    exact_mod_cast this
  rcases niven_angle_eq ⟨_, hrational⟩ ⟨q, hq⟩ ⟨by unfold dyadicAngle; positivity, hle⟩ with
    h | h | h | h | h
  · simp [h]
  · exact (hthird 0 (by rw [h]; ring)).elim
  · simp [h]
  · exact (hthird 1 (by rw [h]; ring)).elim
  · simp [show dyadicAngle m j = Real.pi from h]

/-- A rational entry of the table of the sine is 0, 1 or -1. -/
theorem sin_of_rational {b k : Nat} (hk : k < 2 ^ (b + 2)) {q : ℚ}
    (hq : Real.sin (2 * Real.pi * k / 2 ^ (b + 2)) = q) :
    Real.sin (2 * Real.pi * k / 2 ^ (b + 2)) = 0 ∨ Real.sin (2 * Real.pi * k / 2 ^ (b + 2)) = 1 ∨
      Real.sin (2 * Real.pi * k / 2 ^ (b + 2)) = -1 := by
  rw [← cos_sineAngle hk] at hq ⊢
  exact cos_dyadicAngle_of_rational (sineAngle_le hk) hq

/-- Two entries of opposite values sum to RANGE - 1, but at a tie: there the value is 0, because 1
and -1 give integers, and both entries are RANGE/2 (41_filter_commutator.md R109, "Ties"). -/
theorem roundedEntry_pair {range : Nat} {v : ℝ} (hrange : 2 ≤ range)
    (hv : ∀ q : ℚ, v = q → v = 0 ∨ v = 1 ∨ v = -1) :
    roundedEntry range v + roundedEntry range (-v) = range - 1 ∨
      2 * roundedEntry range v = range ∧ 2 * roundedEntry range (-v) = range := by
  obtain hsum | ⟨hsum, htie⟩ := roundedEntry_add_neg range v
  · exact .inl hsum
  · have hne : (range : ℝ) - 1 ≠ 0 := by
      have : (2 : ℝ) ≤ range := by exact_mod_cast hrange
      linarith
    generalize roundedEntry range v = S at *
    have hrational : v = (((2 * S - range) / (range - 1) : ℚ) : ℝ) := by
      push_cast; rw [eq_div_iff hne]; exact htie
    obtain hzero | hone | hone := hv _ hrational
    · have : 2 * S = range := by rw [hzero] at htie; rify; linarith
      omega
    · have : 2 * S = 2 * range - 1 := by rw [hone] at htie; rify; linarith
      omega
    · have : 2 * S = 1 := by rw [hone] at htie; rify; linarith
      omega

/-- The pair of entries of an index sums to RANGE - 1, or both are RANGE/2 with RANGE even
(41_filter_commutator.md R110). -/
theorem lut_pair {c : Config} (h : c.wf = true) {k : Nat} (hk : k < 2 ^ c.lutBits) :
    lutS c k + lutT c k = c.range - 1 ∨ 2 * lutS c k = c.range ∧ 2 * lutT c k = c.range := by
  obtain ⟨hbits, -, hrange, -⟩ := lut_bounds_of_wf h
  obtain ⟨b, hb⟩ : ∃ b, c.lutBits = b + 2 := ⟨c.lutBits - 2, by omega⟩
  obtain ⟨hS, hT⟩ := lutS_lutT_eq_roundedEntry h hk
  rw [hb] at hk hS hT
  have hpair := roundedEntry_pair hrange fun q hq => sin_of_rational hk hq
  rw [← hS, ← hT] at hpair
  omega

/-! ### The latched duties -/

/-- ANGLE is an unsigned P-bit value (41_filter_commutator.md R107). -/
theorem angle_lt (s : State) : s.angle < 2 ^ s.cfg.p := by
  have hpos : (0 : Int) < (2 ^ s.cfg.p : Nat) := by positivity
  have := Int.emod_nonneg s.fpos hpos.ne'
  have := Int.emod_lt_of_pos s.fpos hpos
  unfold State.angle
  omega

/-- The index of an angle is one of the LUT's (41_filter_commutator.md R108). -/
theorem lutIndex_lt {c : Config} (h : c.lutBits ≤ c.p) {angle : Nat} (ha : angle < 2 ^ c.p) :
    lutIndex c angle < 2 ^ c.lutBits := by
  rw [lutIndex, Nat.div_lt_iff_lt_mul (Nat.two_pow_pos _), ← pow_add, Nat.add_sub_cancel' h]
  exact ha

/-- An entry of the LUT fits the 16 bits of a duty value (10_state.md R34). -/
theorem toNat_ofNat_lutEntry {range : Nat} (hpos : 0 < range) (hmax : range ≤ 65536) (m j : Nat) :
    (BitVec.ofNat 16 (lutEntry range m j)).toNat = lutEntry range m j :=
  Nat.mod_eq_of_lt ((lutEntry_lt range m j hpos).trans_le hmax)

/-- The duty values are the entries of the angle's indices (41_filter_commutator.md R110). -/
theorem commutate_toNat {c : Config} (h : c.wf = true) (angle : Nat) :
    (commutate c angle).d0.toNat = lutS c (lutIndex c angle) ∧
    (commutate c angle).d1.toNat = lutT c (lutIndex c angle) ∧
    (commutate c angle).d2.toNat = lutS c (lutCosIndex c angle) ∧
    (commutate c angle).d3.toNat = lutT c (lutCosIndex c angle) := by
  obtain ⟨-, -, hrange, hmax⟩ := lut_bounds_of_wf h
  have hfits := toNat_ofNat_lutEntry (by omega : 0 < c.range) hmax
  exact ⟨hfits _ _, hfits _ _, hfits _ _, hfits _ _⟩

/-- Settles O54: a performed tick latches the entries of its angle, and each pair is that of one
index. -/
theorem dutyPairsAreComplementary : Obligations.DutyPairsAreComplementary := by
  intro s t h hbusy ht
  obtain ⟨-, frame⟩ := performed_of_exec_tick hbusy ht
  obtain ⟨-, hbitsp, -, -⟩ := lut_bounds_of_wf h
  obtain ⟨h0, h1, h2, h3⟩ := commutate_toNat h t.angle
  have hk : lutIndex s.cfg t.angle < 2 ^ s.cfg.lutBits :=
    lutIndex_lt hbitsp (frame.sameCfg ▸ angle_lt t)
  have hkc : lutCosIndex s.cfg t.angle < 2 ^ s.cfg.lutBits := Nat.mod_lt _ (Nat.two_pow_pos _)
  rw [frame.dutyLatched]
  refine ⟨⟨h0, h1, h2, h3⟩, ?_, ?_⟩
  · rw [h0, h1]; exact lut_pair h hk
  · rw [h2, h3]; exact lut_pair h hkc

end Sys2Proof.Machine

/-! ## The family of the host operations: what each read, write and command of the bus does and
leaves unchanged, and the host's sequences of them (42_host_operations.md) -/

namespace Sys2Proof.Machine

/-! ### Decoding -/

/-- A read of word `w` is the operation of READ_OP, whatever DATA it carries (30_encoding.md R73). -/
theorem decodeRequest_read (w : WordIndex) (d : Word) :
    decodeRequest (requestOf false w d) = readOp w :=
  decodeRequest_requestOf false w d

/-- A write of word `w` is the operation of WRITE_OP (30_encoding.md R73). -/
theorem decodeRequest_write (w : WordIndex) (data : Word) :
    decodeRequest (requestOf true w data) = writeOp w data :=
  decodeRequest_requestOf true w data

/-! ### Reads of one word -/

/-- Settles O16: the two operations drive 0, and the table leaves the reserved words to RD_RSVD. -/
theorem commandAndReservedReadsGiveZero : Obligations.CommandAndReservedReadsGiveZero := by
  intro s w d
  refine ⟨decodeRequest_read 0 d, fun hw => ?_, rfl, rfl⟩
  rw [decodeRequest_read, readOp_reserved w ((isReservedWord_iff w).2 hw)]

/-- The one-bit flags of STATUS (10_state.md R43). -/
theorem statusWord_flags (s : State) :
    s.statusWord.getLsbD 8 = s.moving ∧
    s.statusWord.getLsbD 9 = s.settling ∧
    s.statusWord.getLsbD 10 = s.spDirty := by
  unfold State.statusWord
  simp only [BitVec.getLsbD_append]
  simp

/-- The wider fields of STATUS and its zeros, from bit 0 up (10_state.md R43): what stands below a
field is dropped, and the field is the low end of the rest. -/
theorem statusWord_fields (s : State) :
    s.statusWord.extractLsb' 0 3 = fsmCode s.fsm ∧
    s.statusWord.extractLsb' 3 1 = 0 ∧
    s.statusWord.extractLsb' 4 2 = dirCode s.dir ∧
    s.statusWord.extractLsb' 6 2 = 0 ∧
    s.statusWord.extractLsb' 11 5 = 0 ∧
    s.statusWord.extractLsb' 16 9 = BitVec.ofNat 9 s.fcount ∧
    s.statusWord.extractLsb' 25 7 = 0 := by
  unfold State.statusWord
  refine ⟨?_, ?_, ?_, ?_, ?_, ?_, ?top⟩
  all_goals repeat rw [BitVec.extractLsb'_append_eq_of_le (by omega)]
  case top => exact BitVec.extractLsb'_eq_self
  all_goals exact BitVec.extractLsb'_append_eq_right

/-- The code of a direction is its value in two's complement (10_state.md R22). -/
theorem dirCode_eq_ofInt (d : Dir) : dirCode d = BitVec.ofInt 2 (dirInt d) := by
  cases d <;> rfl

/-- Settles O17, field by field. -/
theorem statusReadShowsTheFlags : Obligations.StatusReadShowsTheFlags := by
  intro s d
  obtain ⟨hmoving, hsettling, hdirty⟩ := statusWord_flags s
  obtain ⟨hfsm, h3, hdir, h6, h11, hfcount, h25⟩ := statusWord_fields s
  refine ⟨decodeRequest_read 1 d, s.statusWord, rfl, ?_, h3, hdir.trans (dirCode_eq_ofInt _), h6,
    hmoving, hsettling.trans ?_, hdirty, h11, ?_, h25⟩
  · rw [hfsm]; cases s.fsm <;> rfl
  · exact decide_not.symm
  · rw [hfcount, BitVec.toNat_ofNat]

/-- The fields of PARAM, from bit 0 up (10_state.md R47). -/
theorem paramWord_fields (c : Config) :
    (paramWord c).extractLsb' 0 4 = BitVec.ofNat 4 c.log2L ∧
    (paramWord c).extractLsb' 4 4 = 0 ∧
    (paramWord c).extractLsb' 8 6 = BitVec.ofNat 6 c.p ∧
    (paramWord c).extractLsb' 14 2 = 0 ∧
    (paramWord c).extractLsb' 16 6 = BitVec.ofNat 6 c.lutBits ∧
    (paramWord c).extractLsb' 22 2 = 0 ∧
    (paramWord c).extractLsb' 24 8 = version := by
  unfold paramWord
  refine ⟨?_, ?_, ?_, ?_, ?_, ?_, ?top⟩
  all_goals repeat rw [BitVec.extractLsb'_append_eq_of_le (by omega)]
  case top => exact BitVec.extractLsb'_eq_self
  all_goals exact BitVec.extractLsb'_append_eq_right

/-- The bounds that a legal build gives the fields of PARAM and RANGE (00_scope.md R6). -/
theorem param_bounds_of_wf {c : Config} (h : c.wf = true) :
    c.log2L ≤ 8 ∧ c.p ≤ 32 ∧ c.lutBits ≤ 32 ∧ c.range ≤ 65536 := by
  simp only [Config.wf, Bool.and_eq_true, decide_eq_true_eq] at h
  omega

/-- The RANGE word of a legal build is RANGE (10_state.md R48). -/
theorem rangeWord_toNat {c : Config} (h : c.range ≤ 65536) : (rangeWord c).toNat = c.range := by
  rw [rangeWord, BitVec.toNat_setWidth_of_le (by omega), BitVec.toNat_ofNat]
  omega

/-- Settles O18: the parameters of a legal build fit their fields. -/
theorem paramAndRangeReadTheBuild : Obligations.ParamAndRangeReadTheBuild := by
  intro s d hwf
  obtain ⟨hlog2L, hp, hlutBits, hrange⟩ := param_bounds_of_wf hwf
  obtain ⟨h0, h4, h8, h14, h16, h22, h24⟩ := paramWord_fields s.cfg
  refine ⟨decodeRequest_read 3 d, decodeRequest_read 4 d,
    ⟨paramWord s.cfg, rfl, ?_, h4, ?_, h14, ?_, h22, ?_⟩,
    ⟨rangeWord s.cfg, rfl, rangeWord_toNat hrange⟩⟩
  · rw [h0, BitVec.toNat_ofNat]; omega
  · rw [h8, BitVec.toNat_ofNat]; omega
  · rw [h16, BitVec.toNat_ofNat]; omega
  · rw [h24]; rfl

/-- JOG is read in two's complement (10_state.md R46). -/
theorem jogWord_toInt (d : Dir) : (jogWord d).toInt = dirInt d := by cases d <;> decide

/-- A limit is read with bit 31 as 0 (42_host_operations.md R123, R124). -/
theorem limitWord_toNat (v : BitVec 31) : (limitWord v).toNat = v.toNat :=
  BitVec.toNat_setWidth_of_le (by omega)

/-- ERR is read with bits 31 to 5 as 0 (42_host_operations.md R116). -/
theorem errWord_toNat (s : State) : s.errWord.toNat = s.err.toNat :=
  BitVec.toNat_setWidth_of_le (by omega)

/-- A duty value is read with bits 31 to 16 as 0 (42_host_operations.md R133 to R136). -/
theorem dutyWord_toNat (d : BitVec 16) : (dutyWord d).toNat = d.toNat :=
  BitVec.toNat_setWidth_of_le (by omega)

/-- Settles O19: each operation drives its register's word, which has the register's value. -/
theorem registerReadsReturnTheRegister : Obligations.RegisterReadsReturnTheRegister := by
  intro s d
  exact ⟨decodeRequest_read 2 d, decodeRequest_read 5 d, decodeRequest_read 7 d,
    decodeRequest_read 8 d, decodeRequest_read 9 d, decodeRequest_read 10 d,
    decodeRequest_read 12 d, decodeRequest_read 13 d, decodeRequest_read 15 d,
    decodeRequest_read 16 d, decodeRequest_read 19 d,
    ⟨s.errWord, rfl, errWord_toNat s⟩, rfl, rfl,
    ⟨jogWord s.jog, rfl, jogWord_toInt s.jog⟩,
    ⟨limitWord s.maxSpeed, rfl, limitWord_toNat s.maxSpeed⟩,
    ⟨limitWord s.maxAccel, rfl, limitWord_toNat s.maxAccel⟩,
    ⟨lo32 s.jumpArg, hi32 s.jumpArg, rfl, rfl, hi32_append_lo32 s.jumpArg⟩,
    rfl, ⟨s.vel, rfl, rfl⟩, rfl⟩

/-- ANGLE fits the word it is read in (42_host_operations.md R130). -/
theorem angleWord_toNat {s : State} (h : s.cfg.p ≤ 32) : s.angleWord.toNat = s.angle := by
  have hlt : s.angle < 2 ^ 32 := (angle_lt s).trans_le (Nat.pow_le_pow_right (by omega) h)
  rw [State.angleWord, BitVec.toNat_ofNat, Nat.mod_eq_of_lt hlt]

/-- ANGLE is the remainder of FPOS (41_filter_commutator.md R107). -/
theorem angle_eq_emod (s : State) : (s.angle : Int) = s.fpos % 2 ^ s.cfg.p := by
  rw [State.angle, Int.toNat_of_nonneg (Int.emod_nonneg _ (by positivity))]
  push_cast
  rfl

/-- Settles O20: ANGLE of a legal build fits its word, a duty value always does. -/
theorem angleAndDutyReads : Obligations.AngleAndDutyReads := by
  intro s d
  refine ⟨decodeRequest_read 17 d, decodeRequest_read 20 d, decodeRequest_read 21 d,
    decodeRequest_read 22 d, decodeRequest_read 23 d, fun hwf => ⟨s.angleWord, rfl, ?_⟩,
    ⟨_, rfl, dutyWord_toNat s.duty.d0⟩, ⟨_, rfl, dutyWord_toNat s.duty.d1⟩,
    ⟨_, rfl, dutyWord_toNat s.duty.d2⟩, ⟨_, rfl, dutyWord_toNat s.duty.d3⟩⟩
  obtain ⟨-, hp, -, -⟩ := param_bounds_of_wf hwf
  rw [angleWord_toNat hp]
  exact angle_eq_emod s

/-- Settles O21: a 64-bit value is its two halves, of which one is driven and one latched. -/
theorem lowReadsLatchTheHighHalf : Obligations.LowReadsLatchTheHighHalf := by
  intro s d
  exact ⟨decodeRequest_read 6 d, decodeRequest_read 14 d, decodeRequest_read 18 d,
    ⟨_, _, rfl, hi32_append_lo32 s.target⟩, ⟨_, _, rfl, hi32_append_lo32 s.pos⟩,
    ⟨_, _, rfl, hi32_append_lo32 s.fposBits⟩⟩

/-! ### Writes -/

/-- Settles O24: the cleared bits are those of DATA's five low bits. -/
theorem errWriteClearsTheSelectedBits : Obligations.ErrWriteClearsTheSelectedBits := by
  intro s data
  refine ⟨decodeRequest_write 2 data, errClear data s.err, rfl, fun i hi => ?_⟩
  simp [errClear, hi]

/-- Settles O25: the high write notes a setpoint. -/
theorem targetIsCommittedByTheHighWrite : Obligations.TargetIsCommittedByTheHighWrite := by
  intro s lo hi
  exact ⟨decodeRequest_write 6 lo, decodeRequest_write 7 hi, rfl,
    congrArg Host.Outcome.next (noteSetpoint_eq _)⟩

/-- A legal DATA of WR_JOG_DIR is set as the new JOG (42_host_operations.md R141). -/
theorem exec_wrJogDir_of_some {data : Word} {j : Dir} (h : jogOperand data = some j) (s : State) :
    exec (.wrJogDir data) s = .next (State.noteSetpoint { s with jog := j }) := by
  change execWrJogDir data s = _
  rw [execWrJogDir, h]

/-- An illegal DATA of WR_JOG_DIR is refused (42_host_operations.md R141). -/
theorem exec_wrJogDir_of_none {data : Word} (h : jogOperand data = none) (s : State) :
    exec (.wrJogDir data) s = .next (s.raise .cfgRej) := by
  change execWrJogDir data s = _
  rw [execWrJogDir, h]

/-- A legal DATA of WR_MAX_SPEED is set as the new limit (42_host_operations.md R142). -/
theorem exec_wrMaxSpeed_of_some {data : Word} {v : BitVec 31} (h : maxSpeedOperand data = some v)
    (s : State) :
    exec (.wrMaxSpeed data) s = .next (State.noteSetpoint { s with maxSpeed := v }) := by
  change execWrMaxSpeed data s = _
  rw [execWrMaxSpeed, h]

/-- An illegal DATA of WR_MAX_SPEED is refused (42_host_operations.md R142). -/
theorem exec_wrMaxSpeed_of_none {data : Word} (h : maxSpeedOperand data = none) (s : State) :
    exec (.wrMaxSpeed data) s = .next (s.raise .cfgRej) := by
  change execWrMaxSpeed data s = _
  rw [execWrMaxSpeed, h]

/-- A legal DATA of WR_MAX_ACCEL is set as the new limit (42_host_operations.md R143). -/
theorem exec_wrMaxAccel_of_some {data : Word} {v : BitVec 31} (h : maxAccelOperand data = some v)
    (s : State) :
    exec (.wrMaxAccel data) s = .next (State.noteSetpoint { s with maxAccel := v }) := by
  change execWrMaxAccel data s = _
  rw [execWrMaxAccel, h]

/-- An illegal DATA of WR_MAX_ACCEL is refused (42_host_operations.md R143). -/
theorem exec_wrMaxAccel_of_none {data : Word} (h : maxAccelOperand data = none) (s : State) :
    exec (.wrMaxAccel data) s = .next (s.raise .cfgRej) := by
  change execWrMaxAccel data s = _
  rw [execWrMaxAccel, h]

/-- The values of WR_JOG_DIR that name a direction (42_host_operations.md R141). -/
theorem jogOperand_eq_some_iff (data : Word) (j : Dir) :
    jogOperand data = some j ↔ data.toInt = dirInt j := by
  unfold jogOperand
  cases j <;> simp only [dirInt] <;> split_ifs <;> simp <;> omega

/-- The values of WR_JOG_DIR that name none (42_host_operations.md R141). -/
theorem jogOperand_eq_none_iff (data : Word) :
    jogOperand data = none ↔ ¬ (data.toInt = -1 ∨ data.toInt = 0 ∨ data.toInt = 1) := by
  unfold jogOperand
  split_ifs <;> simp <;> omega

/-- Settles O26: the three values are those of the three directions. -/
theorem jogDirWriteTakesThreeValues : Obligations.JogDirWriteTakesThreeValues := by
  intro s data
  refine ⟨decodeRequest_write 8 data, fun hlegal => ?_, fun hillegal =>
    exec_wrJogDir_of_none ((jogOperand_eq_none_iff data).2 hillegal) s⟩
  obtain ⟨j, hj⟩ : ∃ j, jogOperand data = some j :=
    Option.ne_none_iff_exists'.1 fun hnone => (jogOperand_eq_none_iff data).1 hnone hlegal
  refine ⟨j, ((jogOperand_eq_some_iff data j).1 hj).symm, ?_⟩
  rw [exec_wrJogDir_of_some hj, noteSetpoint_eq]

/-- Bit 31 of a bus word is set from 2^31 on. -/
theorem getLsbD_31_eq (data : Word) : data.getLsbD 31 = decide (2 ^ 31 ≤ data.toNat) :=
  BitVec.getLsbD_last data

/-- A value below 2^31 is legal for WR_MAX_SPEED, and is what is stored. -/
theorem maxSpeedOperand_of_lt {data : Word} (h : data.toNat < 2 ^ 31) :
    ∃ v, maxSpeedOperand data = some v ∧ v.toNat = data.toNat := by
  refine ⟨data.extractLsb' 0 31, ?_, ?_⟩
  · rw [maxSpeedOperand, getLsbD_31_eq, decide_eq_false (by omega)]; rfl
  · rw [BitVec.extractLsb'_toNat, Nat.shiftRight_zero, Nat.mod_eq_of_lt h]

/-- A value from 2^31 on is illegal for WR_MAX_SPEED. -/
theorem maxSpeedOperand_of_le {data : Word} (h : 2 ^ 31 ≤ data.toNat) :
    maxSpeedOperand data = none := by
  rw [maxSpeedOperand, getLsbD_31_eq, decide_eq_true h]; rfl

/-- WR_MAX_ACCEL takes what WR_MAX_SPEED does, but for 0 (42_host_operations.md R143). -/
theorem maxAccelOperand_eq (data : Word) :
    maxAccelOperand data = if data.toNat = 0 then none else maxSpeedOperand data := by
  unfold maxAccelOperand maxSpeedOperand
  by_cases h : data = 0
  · rw [h]; rfl
  · have hne : data.toNat ≠ 0 := fun hz => h (BitVec.eq_of_toNat_eq hz)
    rw [if_neg hne, decide_eq_false h, Bool.false_or]

/-- Settles O27: bit 31 separates the legal values. -/
theorem maxSpeedWriteTakesThirtyOneBits : Obligations.MaxSpeedWriteTakesThirtyOneBits := by
  intro s data
  refine ⟨decodeRequest_write 9 data, fun hlt => ?_, fun hle =>
    exec_wrMaxSpeed_of_none (maxSpeedOperand_of_le hle) s⟩
  obtain ⟨v, hv, hval⟩ := maxSpeedOperand_of_lt hlt
  refine ⟨v, hval, ?_⟩
  rw [exec_wrMaxSpeed_of_some hv, noteSetpoint_eq]

/-- Settles O28: the legal values of MAX_SPEED, without 0. -/
theorem maxAccelWriteTakesPositiveThirtyOneBits :
    Obligations.MaxAccelWriteTakesPositiveThirtyOneBits := by
  intro s data
  refine ⟨decodeRequest_write 10 data, fun hpos hlt => ?_, fun hillegal =>
    exec_wrMaxAccel_of_none ?_ s⟩
  · obtain ⟨v, hv, hval⟩ := maxSpeedOperand_of_lt hlt
    have hsome : maxAccelOperand data = some v := by
      rw [maxAccelOperand_eq, if_neg (by omega), hv]
    refine ⟨v, hval, ?_⟩
    rw [exec_wrMaxAccel_of_some hsome, noteSetpoint_eq]
  · rw [maxAccelOperand_eq]
    split
    · rfl
    · exact maxSpeedOperand_of_le (hillegal.resolve_left ‹_›)

/-- Settles O29. Each write joins DATA to the half of JUMP_ARG that it keeps. -/
theorem jumpArgWritesSetTheirHalf : Obligations.JumpArgWritesSetTheirHalf := by
  intro s data
  exact ⟨decodeRequest_write 12 data, decodeRequest_write 13 data, rfl, rfl⟩

/-- Settles O30: the three operations answer the state itself. -/
theorem ignoredWritesChangeNothing : Obligations.IgnoredWritesChangeNothing := by
  intro s w data
  refine ⟨fun hw => ?_, fun hw => ?_, decodeRequest_write 0 0, rfl, rfl, rfl⟩
  · rw [decodeRequest_write, writeOp_readOnly w ((isReadOnlyWord_iff w).2 hw)]
  · rw [decodeRequest_write, writeOp_reserved w ((isReservedWord_iff w).2 hw)]

/-! ### Commands -/

/-- An UPDATE at rest does nothing (42_host_operations.md R149). -/
theorem exec_cmdUpdate_of_wait {s : State} (h : s.fsm = .wait) : exec .cmdUpdate s = .next s := by
  change execCmdUpdate s = _
  rw [execCmdUpdate, h]

/-- An UPDATE during a brake is refused (42_host_operations.md R149). -/
theorem exec_cmdUpdate_of_brake {s : State} (h : s.fsm = .brake) :
    exec .cmdUpdate s = .next (s.raise .cmdRej) := by
  change execCmdUpdate s = _
  rw [execCmdUpdate, h]

/-- An UPDATE in any other state re-plans (42_host_operations.md R149). -/
theorem exec_cmdUpdate_of_ne {s : State} (hwait : s.fsm ≠ .wait) (hbrake : s.fsm ≠ .brake) :
    exec .cmdUpdate s = .next { s with fsm := .start, spDirty := false } := by
  change execCmdUpdate s = _
  unfold execCmdUpdate
  split
  case h_1 hfsm => exact absurd hfsm hwait
  case h_2 hfsm => exact absurd hfsm hbrake
  all_goals rfl

/-- A BRAKE in a moving state is accepted (42_host_operations.md R150). -/
theorem exec_cmdBrake_of_integrating {s : State} (h : isIntegrating s.fsm = true) :
    exec .cmdBrake s = .next { s with fsm := .brake } := by
  change execCmdBrake s = _
  unfold execCmdBrake
  split
  any_goals rfl
  all_goals simp [*, isIntegrating] at h

/-- A BRAKE in any other state is refused (42_host_operations.md R150). -/
theorem exec_cmdBrake_of_not_integrating {s : State} (h : isIntegrating s.fsm = false) :
    exec .cmdBrake s = .next (s.raise .cmdRej) := by
  change execCmdBrake s = _
  unfold execCmdBrake
  split
  any_goals rfl
  all_goals simp [*, isIntegrating] at h

/-- A JUMP at rest goes to JUMP_ARG (42_host_operations.md R151). -/
theorem exec_cmdJump_of_wait {s : State} (h : s.fsm = .wait) :
    exec .cmdJump s = .next (s.jumpTo s.jumpArg) := by
  have hhalves : s64 (hi32 s.jumpArg) (lo32 s.jumpArg) = s.jumpArg := hi32_append_lo32 s.jumpArg
  change execCmdJump s = _
  rw [execCmdJump, h, hhalves]

/-- A JUMP elsewhere is refused (42_host_operations.md R151). -/
theorem exec_cmdJump_of_ne_wait {s : State} (h : s.fsm ≠ .wait) :
    exec .cmdJump s = .next (s.raise .cmdRej) := by
  change execCmdJump s = _
  unfold execCmdJump
  split
  case h_1 hfsm => exact absurd hfsm h
  all_goals rfl

/-- The flushed filter stands at the new position at once (42_host_operations.md R151). -/
theorem fpos_jumpTo (s : State) (x : Pos) : (s.jumpTo x).fpos = x.toInt :=
  asr_pow_mul s.cfg.log2L x.toInt

/-- Settles O32, by the three clauses of the command. -/
theorem updateReplansFromStart : Obligations.UpdateReplansFromStart := by
  intro s
  exact ⟨decodeRequest_write 0 1, exec_cmdUpdate_of_wait, exec_cmdUpdate_of_brake,
    exec_cmdUpdate_of_ne⟩

/-- Settles O33: the four moving states are the integrating ones. -/
theorem brakeNeedsAMovingState : Obligations.BrakeNeedsAMovingState := by
  intro s
  refine ⟨decodeRequest_write 0 2, fun h => exec_cmdBrake_of_integrating ?_,
    fun h => exec_cmdBrake_of_not_integrating ?_⟩
  all_goals obtain h | h | h | h := h <;> rw [h] <;> rfl

/-- Settles O34: SUM becomes L times the new position, so its shift is that position. -/
theorem jumpNeedsRestAndFlushesTheFilter : Obligations.JumpNeedsRestAndFlushesTheFilter := by
  intro s
  refine ⟨decodeRequest_write 0 3, fun h => ⟨_, exec_cmdJump_of_wait h, ?_, fpos_jumpTo s _⟩,
    exec_cmdJump_of_ne_wait⟩
  simp [State.jumpTo, State.flushFilter, Config.len]

/-- Settles O35: the codes above 3 name no command. -/
theorem reservedCommandIsRejected : Obligations.ReservedCommandIsRejected := by
  intro s data
  refine ⟨fun h => ?_, rfl⟩
  rw [decodeRequest_write]
  exact commandOp_reserved data ((isReservedCommand_iff data).2 h)

/-! ### The latches between two reads -/

/-- The three latches of `t` are those of `s`, but for those that one of `is` loads
(10_state.md R35). -/
structure KeepsLatches (is : List Instr) (s t : State) : Prop where
  targetHi : .rdTargetLo ∉ is → t.targetHiLatch = s.targetHiLatch
  posHi : .rdPosLo ∉ is → t.posHiLatch = s.posHiLatch
  fposHi : .rdFposLo ∉ is → t.fposHiLatch = s.fposHiLatch

/-- No latch is loaded where the state stays. -/
theorem KeepsLatches.refl (is : List Instr) (s : State) : KeepsLatches is s s :=
  ⟨fun _ => rfl, fun _ => rfl, fun _ => rfl⟩

/-- What neither the first operation nor the rest loads, the run does not load. -/
theorem KeepsLatches.cons {i : Instr} {is : List Instr} {s u t : State}
    (head : KeepsLatches [i] s u) (tail : KeepsLatches is u t) : KeepsLatches (i :: is) s t := by
  have notMem {lo : Instr} (h : lo ∉ i :: is) : lo ∉ [i] ∧ lo ∉ is := by simpa using h
  exact ⟨fun h => (tail.targetHi (notMem h).2).trans (head.targetHi (notMem h).1),
    fun h => (tail.posHi (notMem h).2).trans (head.posHi (notMem h).1),
    fun h => (tail.fposHi (notMem h).2).trans (head.fposHi (notMem h).1)⟩

/-- Only RESET and a `_LO` read write a latch (10_state.md R35). -/
theorem exec_keepsLatches {i : Instr} {s t : State} (h : exec i s = .next t) (hreset : i ≠ .reset) :
    KeepsLatches [i] s t := by
  have keeps := KeepsLatches.refl [i] s
  cases i with
  | reset => exact absurd rfl hreset
  | rdTargetLo => cases h; exact { keeps with targetHi := fun hi => absurd List.mem_cons_self hi }
  | rdPosLo => cases h; exact { keeps with posHi := fun hi => absurd List.mem_cons_self hi }
  | rdFposLo => cases h; exact { keeps with fposHi := fun hi => absurd List.mem_cons_self hi }
  | wrJogDir data =>
    cases hop : jogOperand data with
    | none => cases (exec_wrJogDir_of_none hop s).symm.trans h; exact { keeps with }
    | some j => cases (exec_wrJogDir_of_some hop s).symm.trans h; exact { keeps with }
  | wrMaxSpeed data =>
    cases hop : maxSpeedOperand data with
    | none => cases (exec_wrMaxSpeed_of_none hop s).symm.trans h; exact { keeps with }
    | some v => cases (exec_wrMaxSpeed_of_some hop s).symm.trans h; exact { keeps with }
  | wrMaxAccel data =>
    cases hop : maxAccelOperand data with
    | none => cases (exec_wrMaxAccel_of_none hop s).symm.trans h; exact { keeps with }
    | some v => cases (exec_wrMaxAccel_of_some hop s).symm.trans h; exact { keeps with }
  | cmdUpdate =>
    by_cases hwait : s.fsm = .wait
    · cases (exec_cmdUpdate_of_wait hwait).symm.trans h; exact keeps
    · by_cases hbrake : s.fsm = .brake
      · cases (exec_cmdUpdate_of_brake hbrake).symm.trans h; exact { keeps with }
      · cases (exec_cmdUpdate_of_ne hwait hbrake).symm.trans h; exact { keeps with }
  | cmdBrake =>
    cases hint : isIntegrating s.fsm with
    | false => cases (exec_cmdBrake_of_not_integrating hint).symm.trans h; exact { keeps with }
    | true => cases (exec_cmdBrake_of_integrating hint).symm.trans h; exact { keeps with }
  | cmdJump =>
    by_cases hwait : s.fsm = .wait
    · cases (exec_cmdJump_of_wait hwait).symm.trans h; exact { keeps with }
    · cases (exec_cmdJump_of_ne_wait hwait).symm.trans h; exact { keeps with }
  | tick =>
    obtain ⟨-, rfl⟩ | ⟨hbusy, -, -⟩ := execTick_next s t h
    · exact { keeps with }
    · obtain ⟨-, frame⟩ := performed_of_exec_tick hbusy h
      exact ⟨fun _ => frame.sameTargetHiLatch, fun _ => frame.samePosHiLatch,
        fun _ => frame.sameFposHiLatch⟩
  | _ => cases h; exact { keeps with }

/-- A run of operations without RESET loads the latches of its `_LO` reads alone. -/
theorem runOps_keepsLatches {is : List Instr} {s t : State} (h : runOps is s = .next t)
    (hreset : .reset ∉ is) : KeepsLatches is s t := by
  induction is generalizing s with
  | nil => cases h; exact .refl _ _
  | cons i is ih =>
    obtain ⟨u, hfirst, hrest⟩ := (runOps_cons_next i is s t).1 h
    obtain ⟨hi, his⟩ := not_or.1 (mt List.mem_cons.2 hreset)
    exact (exec_keepsLatches hfirst (Ne.symm hi)).cons (ih hrest his)

/-- Settles O22: the `_LO` read latches the high half, no operation between the two reads loads that
latch again, and the `_HI` read drives it. -/
theorem lowThenHighReadIsOneInstant : Obligations.LowThenHighReadIsOneInstant := by
  intro s s1 s2 t is hrun hreset
  have keeps := runOps_keepsLatches hrun hreset
  refine ⟨fun hlow hlo hhigh => ?_, fun hlow hlo hhigh => ?_, fun hlow hlo hhigh => ?_⟩
  · cases hlow; cases hhigh
    simp [keeps.targetHi hlo]
  · cases hlow; cases hhigh
    simp [keeps.posHi hlo]
  · cases hlow; cases hhigh
    simp [keeps.fposHi hlo]

/-! ### The host's sequences -/

/-- The three operations of `JUMP x` (42_host_operations.md R159). -/
theorem lineOps_seqJump (x : Pos) :
    lineOps (seqJump x) = [.wrJumpLo (lo32 x), .wrJumpHi (hi32 x), .cmdJump] := by
  simp [lineOps, seqJump, lineRequest, decodeRequest_write, writeOp, commandOp, regIndex,
    commandCode]

/-- The three operations of `MOVE x` (42_host_operations.md R158). -/
theorem lineOps_seqMove (x : Pos) :
    lineOps (seqMove x) = [.wrTargetLo (lo32 x), .wrTargetHi (hi32 x), .cmdUpdate] := by
  simp [lineOps, seqMove, seqWriteTarget, lineRequest, decodeRequest_write, writeOp, commandOp,
    regIndex, commandCode]

/-- The two writes of JUMP_ARG, in the order of `JUMP x`, make it `x`. -/
theorem runOps_wrJump (s : State) (x : Pos) (is : List Instr) :
    runOps (.wrJumpLo (lo32 x) :: .wrJumpHi (hi32 x) :: is) s =
      runOps is { s with jumpArg := x } := by
  have hjoin : s64 (hi32 x) (lo32 (s64 (hi32 s.jumpArg) (lo32 x))) = x := by
    rw [lo32_s64]; exact hi32_append_lo32 x
  exact congrArg (fun a => runOps is { s with jumpArg := a }) hjoin

/-- The two writes of `WR64 TARGET, x` commit `x` (42_host_operations.md R156). -/
theorem runOps_wrTarget (s : State) (x : Pos) (is : List Instr) :
    runOps (.wrTargetLo (lo32 x) :: .wrTargetHi (hi32 x) :: is) s =
      runOps is (State.noteSetpoint { s with tloHold := lo32 x, target := x }) :=
  congrArg (fun y => runOps is (State.noteSetpoint { s with tloHold := lo32 x, target := y }))
    (hi32_append_lo32 x)

/-- Settles O59: the jump that ends the sequence is accepted, with the argument just written. -/
theorem jumpSequenceAtRest : Obligations.JumpSequenceAtRest := by
  intro s x hwait
  refine ⟨State.jumpTo { s with jumpArg := x } x, ?_, rfl, rfl, rfl, rfl, fpos_jumpTo _ x, rfl,
    hwait⟩
  rw [lineOps_seqJump, runOps_wrJump, runOps_singleton]
  exact exec_cmdJump_of_wait hwait

/-- An UPDATE leaves TARGET, POS and VEL, and re-plans but at rest and during a brake
(42_host_operations.md R149). -/
theorem exec_cmdUpdate_result (s : State) :
    ∃ t, exec .cmdUpdate s = .next t ∧ t.target = s.target ∧ t.pos = s.pos ∧ t.vel = s.vel ∧
      t.fsm = (if s.fsm = .wait then .wait else if s.fsm = .brake then .brake else .start) := by
  by_cases hwait : s.fsm = .wait
  · exact ⟨s, exec_cmdUpdate_of_wait hwait, rfl, rfl, rfl, by rw [if_pos hwait, hwait]⟩
  · rw [if_neg hwait]
    by_cases hbrake : s.fsm = .brake
    · exact ⟨_, exec_cmdUpdate_of_brake hbrake, rfl, rfl, rfl, by
        rw [if_pos hbrake, raise_fsm, hbrake]⟩
    · exact ⟨_, exec_cmdUpdate_of_ne hwait hbrake, rfl, rfl, rfl, (if_neg hbrake).symm⟩

/-- Settles O60: the two writes commit TARGET, and the UPDATE decides the state. -/
theorem moveSequenceSetsTheTarget : Obligations.MoveSequenceSetsTheTarget := by
  intro s x
  rw [lineOps_seqMove, runOps_wrTarget, runOps_singleton]
  exact exec_cmdUpdate_result _

end Sys2Proof.Machine

/-! ## The family of the exceptions: no step stops, an idle edge, and what sets and clears each
error bit (60_exceptions.md) -/

namespace Sys2Proof.Machine

/-! ### Edges without an operation, and requests that are dropped -/

/-- An edge with no strobe and no access carries no operation (20_memory.md R62). -/
theorem decodeEdge_of_idle {e : Edge} (hrst : e.rst = false) (htick : e.tick = false)
    (hbus : e.busEn = false) : decodeEdge e = [] := by
  simp [decodeEdge, hrst, htick, hbus]

/-- A step at an edge without an operation takes the port values and clocks BUSY (20_memory.md
R63). -/
theorem step_of_decodeEdge_nil {s : State} (h : decodeEdge s.currentEdge = []) :
    step s = .next (s.enterEdge.clockBusy false) := by
  have haccept : s.acceptsTick s.currentEdge = false := by simp [acceptsTick_eq, h]
  rw [← haccept, step, runEdge_next, h]
  exact ⟨_, rfl, rfl⟩

/-- Settles O6: an edge that presents nothing, listed or not, carries no operation. -/
theorem idleEdgeOnlyClocksBusy : Obligations.IdleEdgeOnlyClocksBusy := by
  intro s hidle
  apply step_of_decodeEdge_nil
  unfold State.currentEdge
  obtain hnone | ⟨e, rest, hin, hrst, htick, hbus⟩ := hidle
  · rw [hnone]; rfl
  · rw [hin]; exact decodeEdge_of_idle hrst htick hbus

/-- A tick request while BUSY raises TICK_LOST and does nothing else (60_exceptions.md R166). -/
theorem exec_tick_of_busy {s : State} (h : s.busyLeft ≠ 0) :
    exec .tick s = .next (s.raise .tickLost) :=
  if_pos (bne_iff_ne.2 h)

/-- Settles O36: the request raises TICK_LOST, which is bit 4 of ERR. -/
theorem tickRequestWhileBusyIsDropped : Obligations.TickRequestWhileBusyIsDropped := by
  intro s hbusy
  exact exec_tick_of_busy hbusy

/-! ### No step stops -/

/-- With MAX_ACCEL at least 1 every operation answers a next state: the one stop of the model is the
division of BRAKE (60_exceptions.md R167, 40_engine_fsm.md R95). -/
theorem exec_next_of_accel (i : Instr) {s : State} (h : s.maxAccel ≠ 0) :
    ∃ t, exec i s = .next t := by
  cases i with
  | wrJogDir data =>
    cases hop : jogOperand data with
    | none => exact ⟨_, exec_wrJogDir_of_none hop s⟩
    | some j => exact ⟨_, exec_wrJogDir_of_some hop s⟩
  | wrMaxSpeed data =>
    cases hop : maxSpeedOperand data with
    | none => exact ⟨_, exec_wrMaxSpeed_of_none hop s⟩
    | some v => exact ⟨_, exec_wrMaxSpeed_of_some hop s⟩
  | wrMaxAccel data =>
    cases hop : maxAccelOperand data with
    | none => exact ⟨_, exec_wrMaxAccel_of_none hop s⟩
    | some v => exact ⟨_, exec_wrMaxAccel_of_some hop s⟩
  | cmdUpdate =>
    obtain ⟨t, ht, -⟩ := exec_cmdUpdate_result s
    exact ⟨t, ht⟩
  | cmdBrake =>
    cases hint : isIntegrating s.fsm with
    | false => exact ⟨_, exec_cmdBrake_of_not_integrating hint⟩
    | true => exact ⟨_, exec_cmdBrake_of_integrating hint⟩
  | cmdJump =>
    by_cases hwait : s.fsm = .wait
    · exact ⟨_, exec_cmdJump_of_wait hwait⟩
    · exact ⟨_, exec_cmdJump_of_ne_wait hwait⟩
  | tick =>
    by_cases hbusy : s.busyLeft = 0
    · exact ⟨_, exec_tick_performed s hbusy (brakeDividesByZero_of_accel s h)⟩
    · exact ⟨_, exec_tick_of_busy hbusy⟩
  | _ => exact ⟨_, rfl⟩

/-- With MAX_ACCEL at least 1 every run of operations answers a next state, because none of them
makes MAX_ACCEL 0 (10_state.md R28). -/
theorem runOps_next_of_accel (is : List Instr) {s : State} (h : s.maxAccel ≠ 0) :
    ∃ t, runOps is s = .next t := by
  induction is generalizing s with
  | nil => exact ⟨s, rfl⟩
  | cons i is ih =>
    obtain ⟨u, hu⟩ := exec_next_of_accel i h
    obtain ⟨t, ht⟩ := ih ((exec_effect i s u hu).maxAccel_ne_zero h)
    exact ⟨t, (runOps_cons_next i is s t).2 ⟨u, hu, ht⟩⟩

/-- Settles O8: the operations of the edge answer a next state, and so does the edge. -/
theorem everyStepCompletes : Obligations.EveryStepCompletes := by
  intro s h
  obtain ⟨u, hu⟩ := runOps_next_of_accel (decodeEdge s.currentEdge) (s := s.enterEdge) h.accelPos
  exact ⟨_, (runEdge_next s _ s.currentEdge).2 ⟨u, hu, rfl⟩⟩

/-! ### What a performed tick does to ERR -/

/-- The tick from `s` wraps the new position of its integration, and `t` holds it (40_engine_fsm.md
R82). -/
def StepWraps (s t : State) : Prop :=
  wrapsTo (s.pos.toInt + Int.tdiv (s.vel.toInt + t.vel.toInt) 2) t.pos

/-- The tick from `s` wraps the stop position of BRAKE, and `x` is what it wraps to
(40_engine_fsm.md R91). -/
def BrakeWraps (s : State) (x : Pos) : Prop :=
  s.fsm = .brake ∧ s.vel ≠ 0 ∧ wrapsTo s.stopPos x

/-- `err'` is `err`, or it is `err` with POS_OVF and then `cause` holds. -/
def PosOvfOnlyIf (cause : Prop) (err err' : BitVec 5) : Prop :=
  err' = err ∨ (cause ∧ err' = err ||| errMask .posOvf)

/-- Writing the exact value `x` to a position sets POS_OVF only if `x` is wrapped (60_exceptions.md
R162). -/
theorem posOvfOnlyIf_errAfterPos (err : BitVec 5) (x : Int) :
    PosOvfOnlyIf (wrapsTo x (wrap64 x)) err (errAfterPos err x) := by
  unfold errAfterPos
  split
  · exact .inl rfl
  · exact .inr ⟨⟨by omega, rfl⟩, rfl⟩

/-- POS_OVF that is set twice is set by either cause. -/
theorem PosOvfOnlyIf.trans {p q : Prop} {e e' e'' : BitVec 5} (first : PosOvfOnlyIf p e e')
    (second : PosOvfOnlyIf q e' e'') : PosOvfOnlyIf (q ∨ p) e e'' := by
  obtain rfl | ⟨hp, rfl⟩ := first <;> obtain rfl | ⟨hq, rfl⟩ := second
  · exact .inl rfl
  · exact .inr ⟨.inl hq, rfl⟩
  · exact .inr ⟨.inr hp, rfl⟩
  · exact .inr ⟨.inl hq, by rw [BitVec.or_assoc, BitVec.or_self]⟩

/-- Integration of a new speed sets POS_OVF only if it wraps POS (40_engine_fsm.md R82). -/
theorem integrate_posOvf {s : State} {v : Int} (hv : NewSpeed s v) :
    PosOvfOnlyIf (StepWraps s (s.integrate (dirInt s.dir * v))) s.err
      (s.integrate (dirInt s.dir * v)).err := by
  unfold StepWraps
  rw [integrate_eq, hv.toInt_ofInt]
  exact posOvfOnlyIf_errAfterPos _ _

/-- The handler that ends the FSM phase keeps TARGET, and sets POS_OVF only if it wraps POS
(40_engine_fsm.md R79). -/
theorem handle_done_posOvf {u t : State} (h : handle u = .done t) :
    t.target = u.target ∧ PosOvfOnlyIf (StepWraps u t) u.err t.err := by
  unfold handle at h
  split at h
  · unfold handleWait at h; split at h <;> cases h
    exact ⟨rfl, .inl rfl⟩
  · unfold handleStart at h; split at h
    · cases h
    · split at h <;> cases h
  · cases h; exact ⟨rfl, integrate_posOvf (newSpeed_acc u)⟩
  · cases h; exact ⟨rfl, integrate_posOvf (newSpeed_dec u)⟩
  · cases h; exact ⟨rfl, integrate_posOvf (newSpeed_cruise u)⟩
  · unfold handleDecToZero at h; split at h <;> cases h
    exact ⟨rfl, integrate_posOvf (newSpeed_stop (by omega))⟩
  · cases h; exact ⟨rfl, .inl rfl⟩
  · unfold handleBrake at h; split at h <;> cases h

/-- What a tick from `s` has done before the handler that ends its FSM phase: POS and VEL stand, a
state in BRAKE is the first one, and POS_OVF was set only if the stop position was wrapped
(40_engine_fsm.md R79, R91). -/
structure BeforeLastHandler (s u : State) : Prop where
  pos : u.pos = s.pos
  vel : u.vel = s.vel
  first : u.fsm = .brake → u = s
  posOvf : PosOvfOnlyIf (BrakeWraps s u.target) s.err u.err

/-- A handler that continues keeps this. -/
theorem BeforeLastHandler.again {s u v : State} (h : BeforeLastHandler s u)
    (hagain : handle u = .again v) : BeforeLastHandler s v := by
  unfold handle at hagain
  split at hagain <;> rename_i hfsm
  · unfold handleWait at hagain; split at hagain <;> cases hagain
    exact { h with first := nofun }
  · unfold handleStart at hagain; split at hagain
    · cases hagain; exact { h with first := nofun }
    · split at hagain <;> cases hagain <;> exact { h with first := nofun }
  · cases hagain
  · cases hagain
  · cases hagain
  · unfold handleDecToZero at hagain; split at hagain <;> cases hagain
    exact { h with first := nofun }
  · cases hagain
  · obtain rfl := h.first hfsm
    unfold handleBrake at hagain
    split at hagain <;> cases hagain
    · exact ⟨rfl, rfl, nofun, .inl rfl⟩
    · refine ⟨rfl, rfl, nofun, ?_⟩
      obtain hsame | ⟨hwraps, hset⟩ := posOvfOnlyIf_errAfterPos u.err u.stopPos
      · exact .inl ((errSetIf_wrap64 _ _).trans hsame)
      · exact .inr ⟨⟨hfsm, ‹_›, hwraps⟩, (errSetIf_wrap64 _ _).trans hset⟩

/-- The FSM phase sets POS_OVF only if it wraps POS or the TARGET of BRAKE, and sets no other bit
(60_exceptions.md R161, R162). -/
theorem runFsm_posOvf (s : State) :
    PosOvfOnlyIf (StepWraps s s.runFsm ∨ BrakeWraps s s.runFsm.target) s.err s.runFsm.err := by
  obtain ⟨u, before, hend⟩ := runFsm_ends (BeforeLastHandler s) (fun _ _ h => h.again) s
    ⟨rfl, rfl, fun _ => rfl, .inl rfl⟩
  obtain ⟨htarget, hlast⟩ := handle_done_posOvf hend
  rw [htarget]
  unfold StepWraps at hlast ⊢
  rw [before.pos, before.vel] at hlast
  exact before.posOvf.trans hlast

/-- A performed tick sets POS_OVF only if it wraps POS or the TARGET of BRAKE, and sets no other bit
(60_exceptions.md R161, R162). -/
theorem exec_tick_posOvf {s t : State} (hbusy : s.busyLeft = 0) (h : exec .tick s = .next t) :
    PosOvfOnlyIf (StepWraps s t ∨ BrakeWraps s t.target) s.err t.err := by
  obtain ⟨same, -⟩ := performed_of_exec_tick hbusy h
  have hfsm := runFsm_posOvf s.countdown
  unfold StepWraps at hfsm ⊢
  rw [← same.pos, ← same.vel, ← same.target, ← same.err] at hfsm
  exact hfsm

/-! ### What every operation does to ERR -/

/-- The operation is refused in `s`, with this error (60_exceptions.md R163, R164, R166). -/
inductive RefusedWith (s : State) : Instr → ErrBit → Prop
  | update (braking : s.fsm = .brake) : RefusedWith s .cmdUpdate .cmdRej
  | brake (notMoving : isIntegrating s.fsm = false) : RefusedWith s .cmdBrake .cmdRej
  | jump (notAtRest : s.fsm ≠ .wait) : RefusedWith s .cmdJump .cmdRej
  | reserved (data : Word) : RefusedWith s (.cmdRsvd data) .cmdRej
  | jogDir (data : Word) (illegal : jogOperand data = none) : RefusedWith s (.wrJogDir data) .cfgRej
  | maxSpeed (data : Word) (illegal : maxSpeedOperand data = none) :
      RefusedWith s (.wrMaxSpeed data) .cfgRej
  | maxAccel (data : Word) (illegal : maxAccelOperand data = none) :
      RefusedWith s (.wrMaxAccel data) .cfgRej
  | tick (busy : s.busyLeft ≠ 0) : RefusedWith s .tick .tickLost

/-- What an operation that answers `t` has done to ERR (60_exceptions.md R161). -/
inductive ErrEffect (s : State) : Instr → State → Prop
  | keep (i : Instr) (t : State) (same : t.err = s.err) : ErrEffect s i t
  | clear (data : Word) : ErrEffect s (.wrErr data) { s with err := errClear data s.err }
  | refuse (i : Instr) (e : ErrBit) (cause : RefusedWith s i e) : ErrEffect s i (s.raise e)
  | tick (t : State) (accepted : s.busyLeft = 0)
      (posOvf : PosOvfOnlyIf (StepWraps s t ∨ BrakeWraps s t.target) s.err t.err) :
      ErrEffect s .tick t
  | reset : ErrEffect s .reset s.clear

/-- Every operation that answers a next state has one of these effects on ERR. -/
theorem exec_errEffect {i : Instr} {s t : State} (h : exec i s = .next t) : ErrEffect s i t := by
  cases i with
  | wrErr data => cases h; exact .clear data
  | wrJogDir data =>
    cases hop : jogOperand data with
    | none => cases (exec_wrJogDir_of_none hop s).symm.trans h; exact .refuse _ _ (.jogDir data hop)
    | some j => cases (exec_wrJogDir_of_some hop s).symm.trans h; exact .keep _ _ rfl
  | wrMaxSpeed data =>
    cases hop : maxSpeedOperand data with
    | none =>
      cases (exec_wrMaxSpeed_of_none hop s).symm.trans h; exact .refuse _ _ (.maxSpeed data hop)
    | some v => cases (exec_wrMaxSpeed_of_some hop s).symm.trans h; exact .keep _ _ rfl
  | wrMaxAccel data =>
    cases hop : maxAccelOperand data with
    | none =>
      cases (exec_wrMaxAccel_of_none hop s).symm.trans h; exact .refuse _ _ (.maxAccel data hop)
    | some v => cases (exec_wrMaxAccel_of_some hop s).symm.trans h; exact .keep _ _ rfl
  | cmdUpdate =>
    by_cases hbrake : s.fsm = .brake
    · cases (exec_cmdUpdate_of_brake hbrake).symm.trans h; exact .refuse _ _ (.update hbrake)
    · by_cases hwait : s.fsm = .wait
      · cases (exec_cmdUpdate_of_wait hwait).symm.trans h; exact .keep _ _ rfl
      · cases (exec_cmdUpdate_of_ne hwait hbrake).symm.trans h; exact .keep _ _ rfl
  | cmdBrake =>
    cases hint : isIntegrating s.fsm with
    | false =>
      cases (exec_cmdBrake_of_not_integrating hint).symm.trans h; exact .refuse _ _ (.brake hint)
    | true => cases (exec_cmdBrake_of_integrating hint).symm.trans h; exact .keep _ _ rfl
  | cmdJump =>
    by_cases hwait : s.fsm = .wait
    · cases (exec_cmdJump_of_wait hwait).symm.trans h; exact .keep _ _ rfl
    · cases (exec_cmdJump_of_ne_wait hwait).symm.trans h; exact .refuse _ _ (.jump hwait)
  | cmdRsvd data => cases h; exact .refuse _ _ (.reserved data)
  | tick =>
    by_cases hbusy : s.busyLeft = 0
    · exact .tick t hbusy (exec_tick_posOvf hbusy h)
    · cases (exec_tick_of_busy hbusy).symm.trans h; exact .refuse _ _ (.tick hbusy)
  | reset => cases h; exact .reset
  | _ => cases h; exact .keep _ _ rfl

/-- The error bits are a function of ERR (10_state.md R44). -/
theorem hasErr_congr {s t : State} (h : t.err = s.err) (b : ErrBit) : t.hasErr b = s.hasErr b :=
  congrArg (·.getLsbD (errIndex b)) h

/-- An error that is raised is set, and the others are as they were. -/
theorem hasErr_raise (s : State) (b e : ErrBit) :
    (s.raise e).hasErr b = true ↔ s.hasErr b = true ∨ b = e := by
  unfold State.hasErr
  rw [raise_err, getLsbD_or_errMask, Bool.or_eq_true, decide_eq_true_iff]

/-- Where POS_OVF at most was set, a set bit was set before, or it is POS_OVF and its cause
holds. -/
theorem PosOvfOnlyIf.hasErr {p : Prop} {s t : State} (h : PosOvfOnlyIf p s.err t.err)
    {b : ErrBit} (ht : t.hasErr b = true) : s.hasErr b = true ∨ (b = .posOvf ∧ p) := by
  obtain hsame | ⟨hp, hset⟩ := h
  · exact .inl ((hasErr_congr hsame b).symm.trans ht)
  · unfold State.hasErr at ht ⊢
    rw [hset, getLsbD_or_errMask, Bool.or_eq_true, decide_eq_true_iff] at ht
    exact ht.imp id (⟨·, hp⟩)

/-- Where POS_OVF at most was set, every set bit stays set. -/
theorem PosOvfOnlyIf.keeps_hasErr {p : Prop} {s t : State} (h : PosOvfOnlyIf p s.err t.err)
    {b : ErrBit} (hs : s.hasErr b = true) : t.hasErr b = true := by
  obtain hsame | ⟨-, hset⟩ := h
  · exact (hasErr_congr hsame b).trans hs
  · unfold State.hasErr at hs ⊢
    rw [hset, getLsbD_or_errMask, hs]; rfl

/-- Write 1 to clear keeps the bits that were set and whose data bit is 0 (10_state.md R44). -/
theorem hasErr_errClear (s : State) (data : Word) (b : ErrBit) :
    State.hasErr { s with err := errClear data s.err } b = true ↔
      s.hasErr b = true ∧ data.getLsbD (errIndex b) = false := by
  cases b <;> simp [State.hasErr, errClear, errIndex]

/-- Settles O55, by the effects of an operation on ERR. -/
theorem errorBitsAreSticky : Obligations.ErrorBitsAreSticky := by
  intro i s t b ht hset
  cases exec_errEffect ht with
  | keep _ _ same => exact .inl ((hasErr_congr same b).trans hset)
  | clear data =>
    cases hdata : data.getLsbD (errIndex b) with
    | false => exact .inl ((hasErr_errClear s data b).2 ⟨hset, hdata⟩)
    | true => exact .inr (.inr ⟨data, rfl, hdata⟩)
  | refuse _ e _ => exact .inl ((hasErr_raise s b e).2 (.inl hset))
  | tick _ _ posOvf => exact .inl (posOvf.keeps_hasErr hset)
  | reset => exact .inr (.inl rfl)

/-- A bit that is set after an operation was set before, or the operation was refused with that
error, or it is POS_OVF and a performed tick wrapped a position (60_exceptions.md R161). -/
theorem ErrEffect.cause {i : Instr} {s t : State} (h : ErrEffect s i t) {b : ErrBit}
    (hset : t.hasErr b = true) :
    s.hasErr b = true ∨ RefusedWith s i b ∨
      (b = .posOvf ∧ i = .tick ∧ s.busyLeft = 0 ∧ (StepWraps s t ∨ BrakeWraps s t.target)) := by
  cases h with
  | keep _ _ same => exact .inl ((hasErr_congr same b).symm.trans hset)
  | clear data => exact .inl ((hasErr_errClear s data b).1 hset).1
  | refuse _ e cause =>
    obtain hold | rfl := (hasErr_raise s b e).1 hset
    · exact .inl hold
    · exact .inr (.inl cause)
  | tick _ accepted posOvf =>
    exact (posOvf.hasErr hset).imp id fun ⟨hb, hwraps⟩ => .inr ⟨hb, rfl, accepted, hwraps⟩
  | reset => simp [State.hasErr, State.clear] at hset

/-- Nothing but a refusal sets a bit other than POS_OVF (60_exceptions.md R163 to R166). -/
theorem ErrEffect.cause_of_ne_posOvf {i : Instr} {s t : State} (h : ErrEffect s i t) {b : ErrBit}
    (hb : b ≠ .posOvf) (hset : t.hasErr b = true) : s.hasErr b = true ∨ RefusedWith s i b :=
  (h.cause hset).imp id fun hnew => hnew.resolve_right fun hovf => hb hovf.1

/-- The states in which BRAKE is refused (42_host_operations.md R150). -/
theorem isIntegrating_eq_false_iff (f : Fsm) :
    isIntegrating f = false ↔ f ≠ .acc ∧ f ≠ .dec ∧ f ≠ .constSpeed ∧ f ≠ .decToZero := by
  cases f <;> decide

/-- The illegal values of WR_MAX_SPEED (42_host_operations.md R142). -/
theorem maxSpeedOperand_eq_none_iff (data : Word) :
    maxSpeedOperand data = none ↔ 2 ^ 31 ≤ data.toNat := by
  refine ⟨fun hnone => ?_, maxSpeedOperand_of_le⟩
  by_contra hlt
  obtain ⟨v, hv, -⟩ := maxSpeedOperand_of_lt (not_le.1 hlt)
  simp [hnone] at hv

/-- The illegal values of WR_MAX_ACCEL (42_host_operations.md R143). -/
theorem maxAccelOperand_eq_none_iff (data : Word) :
    maxAccelOperand data = none ↔ data.toNat = 0 ∨ 2 ^ 31 ≤ data.toNat := by
  rw [maxAccelOperand_eq, ← maxSpeedOperand_eq_none_iff]
  by_cases hzero : data.toNat = 0 <;> simp [hzero]

/-- Settles O56: each bit's cause, from the operations that are refused with it. -/
theorem errorBitsHaveTheirCausesOnly : Obligations.ErrorBitsHaveTheirCausesOnly := by
  intro i s t ht
  have effect := exec_errEffect ht
  refine ⟨fun h => ?posOvf, fun h => ?cmdRej, fun h => ?cfgRej, fun h => ?cap, fun h => ?tickLost⟩
  case posOvf =>
    obtain hold | hrefused | ⟨-, hcause⟩ := effect.cause h
    · exact .inl hold
    · cases hrefused
    · exact .inr hcause
  case cmdRej =>
    refine (effect.cause_of_ne_posOvf (by decide) h).imp id fun hrefused => ?_
    cases hrefused with
    | update braking => exact .inl ⟨rfl, braking⟩
    | brake notMoving => exact .inr (.inl ⟨rfl, (isIntegrating_eq_false_iff _).1 notMoving⟩)
    | jump notAtRest => exact .inr (.inr (.inl ⟨rfl, notAtRest⟩))
    | reserved data => exact .inr (.inr (.inr ⟨data, rfl⟩))
  case cfgRej =>
    refine (effect.cause_of_ne_posOvf (by decide) h).imp id fun hrefused => ?_
    cases hrefused with
    | jogDir data illegal =>
      exact .inl ⟨data, rfl, by simpa only [not_or] using (jogOperand_eq_none_iff data).1 illegal⟩
    | maxSpeed data illegal =>
      exact .inr (.inl ⟨data, rfl, (maxSpeedOperand_eq_none_iff data).1 illegal⟩)
    | maxAccel data illegal =>
      exact .inr (.inr ⟨data, rfl, (maxAccelOperand_eq_none_iff data).1 illegal⟩)
  case cap => exact (effect.cause_of_ne_posOvf (by decide) h).resolve_right nofun
  case tickLost =>
    refine (effect.cause_of_ne_posOvf (by decide) h).imp id fun hrefused => ?_
    cases hrefused with
    | tick busy => exact ⟨rfl, busy⟩

end Sys2Proof.Machine

/-! ## The family of reset: the edge that carries it and the state it leaves
(70_reset_and_hazards.md R178) -/

namespace Sys2Proof.Machine

/-- RESET writes every stored element of 10_state.md: of the old state only the build, BUS_RDATA
(log entry 4) and the model's own fields (log entries 1 and 3) are left (R49). -/
theorem clear_eq_resetOf (s : State) :
    s.clear = { State.resetOf s.cfg with
      busRdata := s.busRdata, inputs := s.inputs, freeCount := s.freeCount } := rfl

/-- RESET is never refused and meets no fault: it answers the cleared state. -/
theorem exec_reset (s : State) : exec .reset s = .next s.clear := rfl

/-- Settles O10: RST = 1 masks the other ports, and RESET clears to the reset state of the build. -/
theorem resetLeavesTheResetState : Obligations.ResetLeavesTheResetState :=
  ⟨fun _ => decodeEdge_of_rst, fun s => (exec_reset s).trans (congrArg _ (clear_eq_resetOf s))⟩

end Sys2Proof.Machine
